-- ==== Sys2Proof/Word.lean ====
section
/-! DEFINITION. The widths the spec gives its values, and its two enumerations: the resolution modes and the two
forwarding paths. Every value is unsigned and bit 0 is the least significant (00_scope.md R7). -/

namespace Sys2Proof

/-- A command word on the `cmd` port: 32 bits (30_encoding.md R95). -/
abbrev Word := BitVec 32

/-- An input byte or a host byte (30_encoding.md R81, R91). -/
abbrev Byte := BitVec 8

/-- A symbol, and the level of the seven bus lines: 7 bits (30_encoding.md R85, R88). -/
abbrev Symbol := BitVec 7

/-- An event coordinate, 0..127 (30_encoding.md R82). -/
abbrev Coord := BitVec 7

/-- An event polarity, 0 or 1 (30_encoding.md R82). -/
abbrev Polarity := BitVec 1

/-- A payload, and a decoded received value: 16 bits (30_encoding.md R84, R90). -/
abbrev Payload := BitVec 16

/-- The four resolution modes (10_state.md R24). Their codes are in `Mode.code`. -/
inductive Mode where
  | full
  | half
  | quarter
  | eighth
deriving DecidableEq, Repr, Inhabited

/-- The two forwarding paths: S sensor-to-host, L link-to-host (10_state.md R36). -/
inductive Path where
  | S
  | L
deriving DecidableEq, Repr, Inhabited

end Sys2Proof
end

