-- ==== Sys2Proof/Machine/Bits.lean ====
section
/-! DEFINITION. Bit-level helpers: the population count and the XOR fold (00_scope.md R8, 42_encoder.md R171). -/

namespace Sys2Proof.Machine

/-- The number of set bits among the low `k` bits of `v`. -/
def popcountLow {n : Nat} (v : BitVec n) : Nat → Nat
  | 0 => 0
  | k + 1 => popcountLow v k + (if v.getLsbD k then 1 else 0)

/-- `popcount(v)`, the number of set bits of `v` (00_scope.md R8). -/
def popcount {n : Nat} (v : BitVec n) : Nat :=
  popcountLow v n

/-- The XOR of the low `k` bits of `v`. -/
def xorLow {n : Nat} (v : BitVec n) : Nat → Bool
  | 0 => false
  | k + 1 => (xorLow v k) ^^ v.getLsbD k

/-- The XOR of all bits of `v`, as one bit (42_encoder.md R171: "fold the result's 8 bits via XOR to one bit"). -/
def xorFold {n : Nat} (v : BitVec n) : BitVec 1 :=
  BitVec.ofBool (xorLow v n)

end Sys2Proof.Machine
end

