-- ==== Sys2Proof/Config.lean ====
section
/-! DEFINITION. What an instantiation of the block fixes (00_scope.md R1): the parameters the spec fixes or decides are
constants here, the OPEN ones are the fields of `Params`; and the free choice of the next turn (60_exceptions.md R281).
The checks R1 to R5 put on a parameter set are in WellFormed.lean. -/

namespace Sys2Proof

/-- P_NSYM, entries of the symbol table (R1, fixed). -/
abbrev Config.nSym : Nat := 17

/-- P_PKT_LEN, symbols of a packet (R1, fixed). -/
abbrev Config.pktLen : Nat := 11

/-- P_AGG_CAP, the aggregator's slots (R1, decided: D7). -/
abbrev Config.aggCap : Nat := 500

/-- P_RX_EDGES, input edges per receive sample (R1, decided: D30). -/
abbrev Config.rxEdgesPerSample : Nat := 2

/-- P_DRAIN_TIMEOUT, TICKs the disable path waits for the gate (R1, decided: D24). -/
abbrev Config.drainTimeout : Nat := 100

/-- P_TX_GATE_RESET, the gate after reset: taken (R1, decided: D20). -/
abbrev Config.txGateReset : Bool := false

/-- P_TIMER_W, the width of a forwarding timeout (R1, decided: D27). -/
abbrev Config.timerWidth : Nat := 24

/-- P_RX_FULL_ACTION: what a receive buffer filled without EOP does (R1, OPEN: D32). -/
inductive FullAction where
  | decode
  | discard
deriving DecidableEq, Repr, Inhabited

/-- One entry of the packing table P_PACK: the bits of one mode at the coordinates x[6:m] and y[6:m], the only bits R4
lets P_PACK read. A table of entries stands for the function: `Machine.packBits` reads it (DESIGN CHOICE, log 6). -/
structure PackEntry where
  mode : Mode
  xHi  : Coord
  yHi  : Coord
  bits : Payload
deriving DecidableEq, Repr, Inhabited

/-- The OPEN parameters of 00_scope.md R1, as plain data. -/
structure Params where
  /-- P_W, the weight of each symbol. -/
  weight : Nat
  /-- P_SYM[0..16], the symbol table of P_NSYM entries. -/
  sym : Vector Symbol 17
  /-- P_HDR_SYM[0..1], the parity header symbols. -/
  hdr : Vector Symbol 2
  /-- P_ADDR_SRC[0..3], the address source bytes of the parity. -/
  addrSrc : Vector Byte 4
  /-- P_ADDR_SYM[0..3], the address symbols of the packet. -/
  addrSym : Vector Symbol 4
  /-- P_PACK, the packing table (R4). -/
  pack : List PackEntry
  /-- P_TERM, the host line terminator. -/
  term : Byte
  /-- P_BYTE_Q_CAP, capacity of BQ. -/
  byteQCap : Nat
  /-- P_PKT_Q_CAP, capacity of PKTQ in packets. -/
  pktQCap : Nat
  /-- P_RX_CAP, capacity of RX_BUF in symbols. -/
  rxCap : Nat
  /-- P_RX_FULL_ACTION. -/
  rxFullAction : FullAction
  /-- P_CLEAR_ON_SAME_MODE. -/
  clearOnSameMode : Bool
deriving DecidableEq, Repr

/-- Whose step is taken next (60_exceptions.md R280): the environment's next command word, the held class C command
number `i`, or the one internal step the agent DEC, TX, CMD or RX may take. -/
inductive Turn where
  | env
  | held (i : Nat)
  | dec
  | tx
  | cmd
  | rx
deriving DecidableEq, Repr, Inhabited

/-- The free choice of the turn of step number `n`, where the state's own data names none (R281: "the choice is free").
Uninterpreted: nothing can be proved of its values. DESIGN CHOICE, safe, log 2. -/
opaque Config.freeTurn : Nat → Turn

end Sys2Proof
end

