-- ==== Sys2Proof/Syntax.lean ====
section
/-! DEFINITION. The operations of the block: one constructor per row of spec/opcode_table.json, in the table's order. -/

namespace Sys2Proof

/-- The 8 command words (30_encoding.md R95), the 3 input byte patterns (R81) and the 5 internal steps (R98). -/
inductive Instr where
  /-- BYTE_IN: the byte source delivers `b` (R120). -/
  | byteIn (b : Byte)
  /-- SET_MODE (R140). -/
  | setMode (m : Mode)
  /-- INJECT a synthetic event (R141). -/
  | inject (x y : Coord) (p : Polarity)
  /-- FWD_ENABLE path `k` with timeout `t` TICKs, 0 for none (R220). -/
  | fwdEnable (k : Path) (t : BitVec 24)
  /-- FWD_DISABLE path `k` (R221). -/
  | fwdDisable (k : Path)
  /-- TICK (R223). -/
  | tick
  /-- ACK_LINE: the peer's acknowledge line takes level `v` (R193). -/
  | ackLine (v : Bool)
  /-- RX_LINES: the peer's data lines take levels `v` (R240). -/
  | rxLines (v : Symbol)
  /-- FRAME_BYTE1: the decoder is handed the byte `1yyyyyyy` (R81, R122). -/
  | frameByte1 (y : Coord)
  /-- RESYNC_BYTE1: the decoder is handed the byte `0bbbbbbb` (R81, R122). -/
  | resyncByte1 (b : BitVec 7)
  /-- FRAME_BYTE2: the decoder is handed the byte `pxxxxxxx` (R81, R122). -/
  | frameByte2 (p : Polarity) (x : Coord)
  /-- DEC_STEP (R121). -/
  | decStep
  /-- TX_FETCH (R190). -/
  | txFetch
  /-- TX_SEND (R191). -/
  | txSend
  /-- DRAIN_TAKE (R194). -/
  | drainTake
  /-- RX_STEP (R241). -/
  | rxStep
deriving DecidableEq, Repr

/-- Where a byte stands in the decoder's two-byte window (R81): as byte1 or as byte2. -/
inductive BytePos where
  | first
  | second
deriving DecidableEq, Repr

/-- What an operation is encoded as: a 32-bit command word, an input byte at a window position, or nothing (an internal
step has no word, R98). -/
inductive Code where
  | word (w : Word)
  | byte (pos : BytePos) (b : Byte)
  | internal
deriving DecidableEq, Repr

/-- The class of an operation: I (interrupt input) or C (command layer) for a command word (R95), a frame byte, or an
internal step (R98). -/
inductive OpClass where
  | interrupt
  | command
  | frameByte
  | internal
deriving DecidableEq, Repr

end Sys2Proof
end

