-- ==== Sys2Proof/WellFormed.lean ====
section
/-! DEFINITION. Well-formedness. An operation's operands are bounded by their types, so every `Instr` is well formed
(93_implementation_defined.md lists no operand value as illegal). A parameter set is well formed when it meets the
constraints of 00_scope.md R1 to R5; each constraint is one named check, and an instantiation that breaks one is refused
(R1, 60_exceptions.md R272). -/

namespace Sys2Proof

/-- Every operand value of every operation is legal: BYTE_IN R120 "no value is refused", SET_MODE R140 "every m is
legal", and the other operands range over the whole of their fields (R95). -/
def Instr.wf : Instr → Bool
  | .byteIn _ => true
  | .setMode _ => true
  | .inject _ _ _ => true
  | .fwdEnable _ _ => true
  | .fwdDisable _ => true
  | .tick => true
  | .ackLine _ => true
  | .rxLines _ => true
  | .frameByte1 _ => true
  | .resyncByte1 _ => true
  | .frameByte2 _ _ => true
  | .decStep => true
  | .txFetch => true
  | .txSend => true
  | .drainTake => true
  | .rxStep => true

/-- P_W is 2 or 3 (R1). -/
def Params.weightOk (p : Params) : Bool :=
  p.weight == 2 || p.weight == 3

/-- Each entry of P_SYM has exactly P_W bits set (R2). -/
def Params.symWeightOk (p : Params) : Bool :=
  p.sym.toList.all fun s => Machine.popcount s == p.weight

/-- The 17 entries of P_SYM are pairwise distinct (R2). -/
def Params.symDistinct (p : Params) : Bool :=
  decide p.sym.toList.Nodup

/-- The two parity header symbols differ (R3). -/
def Params.hdrDistinct (p : Params) : Bool :=
  p.hdr[0] != p.hdr[1]

/-- P_TERM is a control character: 0x00..0x1F or 0x7F (R5; PRESUMED by the spec itself, G1, log 13). -/
def Params.termOk (p : Params) : Bool :=
  decide (p.term.toNat ≤ 0x1F) || p.term == 0x7F

/-- Each queue capacity is at least 1 (R1). -/
def Params.capsOk (p : Params) : Bool :=
  decide (1 ≤ p.byteQCap) && decide (1 ≤ p.pktQCap) && decide (1 ≤ p.rxCap)

/-- The constraints of R1 to R5. R4 (P_PACK reads only x[6:m] and y[6:m]) holds of every table by the way it is read
(`Machine.packBits`); the 7-bit and 8-bit widths of R2 and R3 hold by the types. -/
def Params.wf (p : Params) : Bool :=
  p.weightOk && p.symWeightOk && p.symDistinct && p.hdrDistinct && p.termOk && p.capsOk

/-- A parameter set that meets every constraint: a witness that R1 to R5 can be met, and nothing else. No definition of
the machine reads it. -/
def Params.witness : Params where
  weight := 2
  sym := #v[0x03, 0x05, 0x06, 0x09, 0x0A, 0x0C, 0x11, 0x12, 0x14, 0x18, 0x21, 0x22, 0x24, 0x28, 0x30, 0x41, 0x42]
  hdr := #v[0x03, 0x05]
  addrSrc := #v[0, 0, 0, 0]
  addrSym := #v[0x03, 0x03, 0x03, 0x03]
  pack := []
  term := 0
  byteQCap := 1
  pktQCap := 1
  rxCap := 1
  rxFullAction := .decode
  clearOnSameMode := false

/-- An instantiation of the block: a parameter set together with the proof that it meets R1 to R5. The default values
serve only to show that the type is inhabited, as `opaque` needs. -/
structure Cfg where
  params : Params := Params.witness
  ok     : params.wf = true := by decide
deriving DecidableEq, Repr, Inhabited

/-- The parameters of the block that reset starts: OPEN in the spec (92_eei_decisions.md D6, D11, D13 to D18, D29, D32),
so uninterpreted. Nothing but R1 to R5 can be proved of them. Safe, log 5. -/
opaque Config.params : Cfg

end Sys2Proof
end

