-- ==== Sys2Proof/Decode.lean ====
section
/-! DEFINITION. The decoder (30_encoding.md R81, R95, R97) and, after it, the encoder and the assembler's pseudo-operations
(R102). A word that selects no row decodes to nothing; the step then marks it as refused (R97). -/

namespace Sys2Proof

/-- The 2-bit code of a mode (R83). -/
def Mode.code : Mode → BitVec 2
  | .full => 0
  | .half => 1
  | .quarter => 2
  | .eighth => 3

/-- The mode of a 2-bit code; all four are legal (R24, R83). -/
def Mode.ofCode (c : BitVec 2) : Mode :=
  if c = 0 then .full else if c = 1 then .half else if c = 2 then .quarter else .eighth

/-- K of a path: 0 = S, 1 = L (R95). -/
def Path.code : Path → BitVec 1
  | .S => 0
  | .L => 1

/-- The path K selects (R95). -/
def Path.ofCode (c : BitVec 1) : Path :=
  if c = 0 then .S else .L

/-- "A word w selects the row whose (w & mask) = match" (R95). -/
def selectsRow (w mask pattern : Word) : Bool :=
  w &&& mask == pattern

/-- The operation of a command word (R95), or none for a reserved word (R97). -/
def decodeWord (w : Word) : Option Instr :=
  if selectsRow w 0xFFFFFF00 0x10000000 then some (.byteIn (w.extractLsb' 0 8))
  else if selectsRow w 0xFFFFFFFC 0x20000000 then some (.setMode (Mode.ofCode (w.extractLsb' 0 2)))
  else if selectsRow w 0xFFFE8080 0x30000000 then
    some (.inject (w.extractLsb' 0 7) (w.extractLsb' 8 7) (w.extractLsb' 16 1))
  else if selectsRow w 0xFE000000 0x40000000 then
    some (.fwdEnable (Path.ofCode (w.extractLsb' 24 1)) (w.extractLsb' 0 24))
  else if selectsRow w 0xFEFFFFFF 0x50000000 then some (.fwdDisable (Path.ofCode (w.extractLsb' 24 1)))
  else if selectsRow w 0xFFFFFFFF 0x60000000 then some .tick
  else if selectsRow w 0xFFFFFFFE 0x70000000 then some (.ackLine (w.getLsbD 0))
  else if selectsRow w 0xFFFFFF80 0x80000000 then some (.rxLines (w.extractLsb' 0 7))
  else none

/-- The pattern an input byte matches at its window position (R81): as byte1 its bit 7 tells a valid byte from one that
cannot start a frame; as byte2 every byte is polarity and x. -/
def decodeByte (pos : BytePos) (b : Byte) : Instr :=
  match pos with
  | .first => if b.getLsbD 7 then .frameByte1 (b.extractLsb' 0 7) else .resyncByte1 (b.extractLsb' 0 7)
  | .second => .frameByte2 (b.extractLsb' 7 1) (b.extractLsb' 0 7)

/-- The operation of an encoding. An internal step has no encoding (R98). -/
def decode : Code → Option Instr
  | .word w => decodeWord w
  | .byte pos b => some (decodeByte pos b)
  | .internal => none

/-- The operation read from the bits `w` of a table row of `nbits` bits: a command word of 32 bits, or an input byte of 8
bits, read in the byte1 position, as an empty window reads it (log 8). -/
def decodeTableWord (nbits w : Nat) : Option Instr :=
  if nbits = 32 then decodeWord (BitVec.ofNat 32 w)
  else if nbits = 8 then some (decodeByte .first (BitVec.ofNat 8 w))
  else none

/-! ### The encoder -/

/-- The command word, or the frame byte, of an operation (R95, R102; R81). -/
def encode : Instr → Code
  | .byteIn b => .word (0x10000000#32 ||| b.setWidth 32)
  | .setMode m => .word (0x20000000#32 ||| m.code.setWidth 32)
  | .inject x y p => .word (0x30000000#32 ||| (p.setWidth 32 <<< 16) ||| (y.setWidth 32 <<< 8) ||| x.setWidth 32)
  | .fwdEnable k t => .word (0x40000000#32 ||| (k.code.setWidth 32 <<< 24) ||| t.setWidth 32)
  | .fwdDisable k => .word (0x50000000#32 ||| (k.code.setWidth 32 <<< 24))
  | .tick => .word 0x60000000
  | .ackLine v => .word (0x70000000#32 ||| (BitVec.ofBool v).setWidth 32)
  | .rxLines v => .word (0x80000000#32 ||| v.setWidth 32)
  | .frameByte1 y => .byte .first (0x80#8 ||| y.setWidth 8)
  | .resyncByte1 b => .byte .first (b.setWidth 8)
  | .frameByte2 p x => .byte .second ((p.setWidth 8 <<< 7) ||| x.setWidth 8)
  | .decStep => .internal
  | .txFetch => .internal
  | .txSend => .internal
  | .drainTake => .internal
  | .rxStep => .internal

/-- The class of an operation (R95, R98). -/
def Instr.opClass : Instr → OpClass
  | .byteIn _ => .interrupt
  | .setMode _ => .command
  | .inject _ _ _ => .command
  | .fwdEnable _ _ => .command
  | .fwdDisable _ => .command
  | .tick => .interrupt
  | .ackLine _ => .interrupt
  | .rxLines _ => .interrupt
  | .frameByte1 _ => .frameByte
  | .resyncByte1 _ => .frameByte
  | .frameByte2 _ _ => .frameByte
  | .decStep => .internal
  | .txFetch => .internal
  | .txSend => .internal
  | .drainTake => .internal
  | .rxStep => .internal

/-! ### Pseudo-operations (R102) -/

/-- `FRAME x, y, p`: the two BYTE_IN operations of a frame. -/
def pseudoFrame (x y : Coord) (p : Polarity) : List Instr :=
  [.byteIn (0x80#8 ||| y.setWidth 8), .byteIn ((p.setWidth 8 <<< 7) ||| x.setWidth 8)]

/-- `TICKS n`. -/
def pseudoTicks (n : Nat) : List Instr :=
  List.replicate n .tick

/-- `ACK_TOGGLE`, where `a` is the level of the previous ACK_LINE. -/
def pseudoAckToggle (a : Bool) : Instr :=
  .ackLine (!a)

/-- `SEND_SYMBOL s`, where `l` is the level of the previous RX_LINES. -/
def pseudoSendSymbol (l s : Symbol) : Instr :=
  .rxLines (l ^^^ s)

end Sys2Proof
end

