-- ==== Sys2Proof/Machine/State.lean ====
section
/-! DEFINITION. The state of the block as plain data (10_state.md R20 to R49), its reset value (R47), and the reasons a
step can stop. INVENTORY.md lists every field with its rule and reset value. -/

namespace Sys2Proof.Machine

/-- The block raises no exception and takes no trap (60_exceptions.md R270), and no operation of it is left without an
effect, so there is no fault: the type has no constructor. -/
inductive Fault where
deriving DecidableEq, Repr

/-- Why the model refuses. -/
inductive Refusal where
  /-- Raised by `exec` for an instruction that has no meaning yet; no arm raises it. Safe: the run stops. -/
  | notModelled (mnemonic : String)
  /-- Raised by `instantiate` for a parameter set that breaks R1 to R5: `refuse(bad_parameters)`, before the first step
  (60_exceptions.md R272, 93_implementation_defined.md I2). Safe: no run starts. -/
  | badParameters
deriving DecidableEq, Repr

/-- A packet: P_PKT_LEN = 11 symbols (10_state.md R29). -/
abbrev Packet := Vector Symbol 11

/-- An event {x, y, p}; it exists only inside one step (30_encoding.md R82). -/
structure Event where
  x : Coord
  y : Coord
  p : Polarity
deriving DecidableEq, Repr

/-- A pending-event slot (10_state.md R26). -/
structure Slot where
  /-- OCC. -/
  occ : Bool
  /-- X. -/
  x : Coord
  /-- Y. -/
  y : Coord
  /-- P. -/
  p : Polarity
deriving DecidableEq, Repr

/-- A forwarding controller (10_state.md R36). -/
structure Fwd where
  /-- ACTIVE, the forwarding flag. -/
  active : Bool
  /-- ARMED, a one-shot timer is armed. -/
  armed : Bool
  /-- REM, TICKs left before expiry. -/
  rem : BitVec 24
deriving DecidableEq, Repr

/-- A block of coordinates [minX, maxX] x [minY, maxY] (41_aggregator.md R144), as exact numbers. -/
structure Block where
  minX : Nat
  maxX : Nat
  minY : Nat
  maxY : Nat
deriving DecidableEq, Repr

/-- The tally of a block (41_aggregator.md R145): |C|, pos and neg. -/
structure Tally where
  count : Nat
  pos : Nat
  neg : Nat
deriving DecidableEq, Repr

/-- Why a received frame ends (45_receiver.md R242). -/
inductive FrameEnd where
  | eop
  | full
deriving DecidableEq, Repr

/-- The transmit sequencer's states, read off TX_HAS and TX_GATE (43_transmitter.md R192). -/
inductive SequencerState where
  | idle
  | waitForAck
  | sending
deriving DecidableEq, Repr

/-- A controller's states, read off ACTIVE and ARMED (44_forwarding.md R224). ACTIVE = 0 with ARMED = 1 is unreachable
and is given a name of its own. -/
inductive ControllerState where
  | off
  | onNoDeadline
  | onUntilDeadline
  | unreachable
deriving DecidableEq, Repr

/-- What a turn fetches: an operation to run, a reserved command word (30_encoding.md R97), or nothing (no step of that
turn is enabled). -/
inductive Fetched where
  | run (i : Instr)
  | reserved (w : Word)
  | nothing
deriving DecidableEq, Repr

/-- The whole state. The fields down to `txTrace` are the spec's; `held` and `refusals` are the spec's model outcomes
(00_scope.md R10); `cmdIn`, `turns` and `turnNo` are the model's own (log 1, log 2). -/
structure State where
  /-- The parameters of this instantiation, constant for its life (R6). -/
  cfg : Cfg
  /-- BQ, the byte input queue, head first (R22). -/
  bq : List Byte
  /-- DW0, byte1 of the decoder window (R23). -/
  dw0 : Byte
  /-- DWL, the window length, 0 or 1 (R23). -/
  dwl : Bool
  /-- MODE (R24). -/
  mode : Mode
  /-- SLOT[0..P_AGG_CAP-1] (R26). -/
  slots : List Slot
  /-- HWM, the high-water mark as a count (R27). -/
  hwm : Nat
  /-- PKTQ, the outbound packet queue, head first (R29). -/
  pktq : List Packet
  /-- TX_HAS (R30). -/
  txHas : Bool
  /-- TX_PKT[0..10] (R30). -/
  txPkt : Packet
  /-- TX_IDX, 0..10 (R30). -/
  txIdx : Fin 11
  /-- TX_GATE, 1 = released (R31). -/
  txGate : Bool
  /-- TX_OUT, the level driven on the bus (R32). -/
  txOut : Symbol
  /-- TX_FCNT, 0..10, symbols forwarded since the last terminator (R33). -/
  txFcnt : Fin 11
  /-- ACK_IN, the last level of the peer's acknowledge line (R34). -/
  ackIn : Bool
  /-- DRAIN (R35). -/
  drain : Bool
  /-- DRAIN_T (R35). -/
  drainT : Nat
  /-- FWD[S] (R36). -/
  fwdS : Fwd
  /-- FWD[L] (R36). -/
  fwdL : Fwd
  /-- RX_LINES (R37). -/
  rxLines : Symbol
  /-- RX_EDGES, unbounded (R38). -/
  rxEdges : Nat
  /-- RX_PREV (R39). -/
  rxPrev : Symbol
  /-- RX_BUF[0..P_RX_CAP-1] (R40). -/
  rxBuf : List Symbol
  /-- RX_LEN (R40). -/
  rxLen : Nat
  /-- RX_ACK (R41). -/
  rxAck : Bool
  /-- HOST_OUT, oldest first (R42). -/
  hostOut : List Byte
  /-- LOCAL_OUT, oldest first (R43). -/
  localOut : List Payload
  /-- TX_TRACE, oldest first (R44). -/
  txTrace : List Symbol
  /-- The class C operations held by DRAIN, oldest first (R10, R96; log 3). -/
  held : List Instr
  /-- The refusal marks: the reserved words refused, oldest first (R10, R97; log 4). -/
  refusals : List Word
  /-- The model's own: the words the environment offers on the cmd port, next first (R45; log 1). -/
  cmdIn : List Word
  /-- The model's own: whose turn is next, next first (R281; log 2). -/
  turns : List Turn
  /-- The model's own: the number of the next step, the argument of `Config.freeTurn` (R281; log 2). -/
  turnNo : Nat
deriving DecidableEq, Repr

/-- The parameters of the instantiation. -/
abbrev State.prm (s : State) : Params :=
  s.cfg.params

/-- A slot after reset: OCC = 0 (R47); X, Y and P are marked "any" there and hold 0 here (DESIGN CHOICE, log 7). -/
def Slot.free : Slot :=
  { occ := false, x := 0, y := 0, p := 0 }

/-- A controller after reset: Off (R47). -/
def Fwd.off : Fwd :=
  { active := false, armed := false, rem := 0 }

/-- The state right after reset of the block with parameters `c` (10_state.md R47). DW0, TX_PKT and RX_BUF are marked
"any" there and hold 0 here (DESIGN CHOICE, log 7). -/
def State.powerOn (c : Cfg) : State where
  cfg := c
  bq := []
  dw0 := 0
  dwl := false
  mode := .full
  slots := List.replicate Config.aggCap Slot.free
  hwm := 0
  pktq := []
  txHas := false
  txPkt := #v[0, 0, 0, 0, 0, 0, 0, 0, 0, 0, 0]
  txIdx := 0
  txGate := Config.txGateReset
  txOut := 0
  txFcnt := 0
  ackIn := false
  drain := false
  drainT := 0
  fwdS := Fwd.off
  fwdL := Fwd.off
  rxLines := 0
  rxEdges := 0
  rxPrev := 0
  rxBuf := List.replicate c.params.rxCap 0
  rxLen := 0
  rxAck := false
  hostOut := []
  localOut := []
  txTrace := []
  held := []
  refusals := []
  cmdIn := []
  turns := []
  turnNo := 0

/-- The machine right after reset, its OPEN parameters uninterpreted (R47, R291; log 5). -/
def State.reset : State :=
  State.powerOn Config.params

end Sys2Proof.Machine
end

