-- ==== Sys2Proof/Machine/Operands.lean ====
section
/-! DEFINITION. The values the operations compute from their operands and the parameters: block width and bounds, payload,
parity, packet, reverse lookup, received value, host records (30_encoding.md, 41_aggregator.md, 42_encoder.md,
45_receiver.md). Nothing here writes state. -/

namespace Sys2Proof.Machine

/-! ### Mode -/

/-- The block width w = 1 << MODE (10_state.md R25). -/
def blockWidth (m : Mode) : Nat :=
  1 <<< m.code.toNat

/-- The number of buffered events a block needs to be emitted, (w*w) div 2 (41_aggregator.md R146). -/
def threshold (m : Mode) : Nat :=
  blockWidth m * blockWidth m / 2

/-! ### Symbols -/

/-- P_SYM[n] for a nibble value n (30_encoding.md R85). -/
def dataSym (c : Params) (n : BitVec 4) : Symbol :=
  c.sym[n.toNat]'(Nat.lt_trans n.isLt (by decide))

/-- EOP = P_SYM[16] (00_scope.md R2). -/
def eop (c : Params) : Symbol :=
  c.sym[16]

/-- LOOKUP(s): the nibble whose data symbol is `s`, or a miss. EOP is a miss (45_receiver.md R243). -/
def lookup (c : Params) (s : Symbol) : Option (BitVec 4) :=
  ((c.sym.toList.take 16).findIdx? (fun t => t == s)).map (BitVec.ofNat 4)

/-! ### Encoder -/

/-- P_PACK(m, x, y), read from its table at x[6:m] and y[6:m] only, as 00_scope.md R4 demands. A pair of coordinates the
table does not list packs to 0: every function R4 admits is the reading of some table (DESIGN CHOICE, log 6). -/
def packBits (c : Params) (m : Mode) (x y : Coord) : Payload :=
  match c.pack.find? fun e =>
      e.mode == m && e.xHi == x >>> m.code.toNat && e.yHi == y >>> m.code.toNat with
  | some e => e.bits
  | none => 0

/-- PAYLOAD(e) under mode m (42_encoder.md R170, 30_encoding.md R84). -/
def payload (c : Params) (m : Mode) (e : Event) : Payload :=
  0x8000#16 ||| (e.p.setWidth 16 <<< 14) ||| packBits c m e.x e.y

/-- The byte the parity folds: the XOR of the four address source bytes and the two payload bytes (42_encoder.md R171). -/
def parityByte (c : Params) (pl : Payload) : Byte :=
  c.addrSrc[0] ^^^ c.addrSrc[1] ^^^ c.addrSrc[2] ^^^ c.addrSrc[3] ^^^ pl.extractLsb' 0 8 ^^^ pl.extractLsb' 8 8

/-- PARITY(pl), the odd-parity bit (42_encoder.md R171). -/
def parity (c : Params) (pl : Payload) : BitVec 1 :=
  1 ^^^ xorFold (parityByte c pl)

/-- P_HDR_SYM[par] (30_encoding.md R86). -/
def parityHeader (c : Params) (par : BitVec 1) : Symbol :=
  if par = 1 then c.hdr[1] else c.hdr[0]

/-- PACKET(pl, par), the 11 symbols in order (42_encoder.md R172, 30_encoding.md R87). -/
def packet (c : Params) (pl : Payload) (par : BitVec 1) : Packet :=
  #v[parityHeader c par, dataSym c 0,
    dataSym c (pl.extractLsb' 0 4), dataSym c (pl.extractLsb' 4 4),
    dataSym c (pl.extractLsb' 8 4), dataSym c (pl.extractLsb' 12 4),
    c.addrSym[3], c.addrSym[2], c.addrSym[1], c.addrSym[0],
    eop c]

/-- The packet of a payload, with its own parity (42_encoder.md R174). -/
def packetOf (c : Params) (pl : Payload) : Packet :=
  packet c pl (parity c pl)

/-! ### Aggregator -/

/-- BLOCK(e, w) (41_aggregator.md R144). -/
def blockOf (m : Mode) (e : Event) : Block :=
  let w := blockWidth m
  let minX := e.x.toNat - e.x.toNat % w
  let minY := e.y.toNat - e.y.toNat % w
  { minX, maxX := minX + w - 1, minY, maxY := minY + w - 1 }

/-- The slot is occupied and its event lies within the block: it contributes to the tally (41_aggregator.md R145). -/
def contributes (b : Block) (c : Slot) : Bool :=
  c.occ && decide (b.minX ≤ c.x.toNat) && decide (c.x.toNat ≤ b.maxX)
    && decide (b.minY ≤ c.y.toNat) && decide (c.y.toNat ≤ b.maxY)

/-- TALLY over the slots below `hwm` (41_aggregator.md R145). -/
def tallyOf (b : Block) (slots : List Slot) (hwm : Nat) : Tally where
  count := (slots.take hwm).countP (contributes b)
  pos := (slots.take hwm).countP fun c => contributes b c && c.p == 1
  neg := (slots.take hwm).countP fun c => contributes b c && c.p == 0

/-- The least index of a free slot (41_aggregator.md R143 step 2). -/
def firstFree (slots : List Slot) : Option Nat :=
  slots.findIdx? fun c => !c.occ

/-- The high-water mark scanned down from `h`: 1 + the highest occupied index below `h`, or 0 (41_aggregator.md R146). -/
def scanDown (slots : List Slot) : Nat → Nat
  | 0 => 0
  | h + 1 => if (slots.getD h Slot.free).occ then h + 1 else scanDown slots h

/-- A slot with OCC <- 0; its X, Y and P stay (R140, R146). -/
def freeSlot (c : Slot) : Slot :=
  { c with occ := false }

/-- The slots below `hwm` that contribute to the block are freed (41_aggregator.md R146). -/
def freeContributors (b : Block) (slots : List Slot) (hwm : Nat) : List Slot :=
  (slots.take hwm).map (fun c => if contributes b c then freeSlot c else c) ++ slots.drop hwm

/-! ### Receiver -/

/-- The received frame RX_BUF[0..RX_LEN-1] (30_encoding.md R90). -/
def receivedFrame (s : State) : List Symbol :=
  s.rxBuf.take s.rxLen

/-- The value at positions 2..5 of the receive buffer, nibble 0 lowest, or none when a position misses
(45_receiver.md R242). -/
def frameValue (c : Params) (buf : List Symbol) : Option Payload :=
  match lookup c (buf.getD 2 0), lookup c (buf.getD 3 0), lookup c (buf.getD 4 0), lookup c (buf.getD 5 0) with
  | some n0, some n1, some n2, some n3 =>
    some (n0.setWidth 16 ||| (n1.setWidth 16 <<< 4) ||| (n2.setWidth 16 <<< 8) ||| (n3.setWidth 16 <<< 12))
  | _, _, _, _ => none

/-! ### Host records (30_encoding.md R91) -/

/-- The byte of a forwarded symbol, zext_8(s) (20_memory.md R64). -/
def symbolByte (s : Symbol) : Byte :=
  s.setWidth 8

/-- The three bytes of a forwarded value: big-endian, then P_TERM (20_memory.md R64). -/
def valueRecord (c : Params) (v : Payload) : List Byte :=
  [v.extractLsb' 8 8, v.extractLsb' 0 8, c.term]

/-! ### Ports (10_state.md R45) -/

/-- The port tx_data shows TX_OUT. -/
def portTxData (s : State) : Symbol :=
  s.txOut

/-- The port rx_ack_out shows RX_ACK. -/
def portRxAckOut (s : State) : Bool :=
  s.rxAck

end Sys2Proof.Machine
end

