-- ==== Sys2Proof/Machine/Flags.lean ====
section
/-! DEFINITION. The conditions the rules test: which internal step is enabled (60_exceptions.md R280), what is an edge,
when a block is emitted and with which polarity, and the states read off the flags (R192, R224, R282). The block has no
condition codes (10_state.md R46 lists its one-bit status state). -/

namespace Sys2Proof.Machine

/-- DEC_STEP is enabled exactly when BQ is not empty (40_deserializer.md R121). -/
def decStepEnabled (s : State) : Bool :=
  !s.bq.isEmpty

/-- TX_FETCH requires TX_HAS = 0 and a packet in PKTQ (43_transmitter.md R190). -/
def txFetchEnabled (s : State) : Bool :=
  !s.txHas && !s.pktq.isEmpty

/-- TX_SEND requires TX_HAS = 1 and TX_GATE = 1 (43_transmitter.md R191). -/
def txSendEnabled (s : State) : Bool :=
  s.txHas && s.txGate

/-- DRAIN_TAKE requires DRAIN = 1 and TX_GATE = 1 (43_transmitter.md R194). -/
def drainTakeEnabled (s : State) : Bool :=
  s.drain && s.txGate

/-- RX_STEP requires RX_EDGES >= P_RX_EDGES (45_receiver.md R241). -/
def rxStepEnabled (s : State) : Bool :=
  decide (Config.rxEdgesPerSample ≤ s.rxEdges)

/-- The operation may take its step (R280): class I words and frame bytes always, class C words when DRAIN = 0 (R96),
an internal step when its own condition holds. -/
def enabled (s : State) : Instr → Bool
  | .byteIn _ => true
  | .setMode _ => !s.drain
  | .inject _ _ _ => !s.drain
  | .fwdEnable _ _ => !s.drain
  | .fwdDisable _ => !s.drain
  | .tick => true
  | .ackLine _ => true
  | .rxLines _ => true
  | .frameByte1 _ => true
  | .resyncByte1 _ => true
  | .frameByte2 _ _ => true
  | .decStep => decStepEnabled s
  | .txFetch => txFetchEnabled s
  | .txSend => txSendEnabled s
  | .drainTake => drainTakeEnabled s
  | .rxStep => rxStepEnabled s

/-- No internal step is enabled (60_exceptions.md R282). -/
def quiescent (s : State) : Bool :=
  !decStepEnabled s && !txFetchEnabled s && !txSendEnabled s && !drainTakeEnabled s && !rxStepEnabled s

/-- The environment has no more words to give (60_exceptions.md R282): none waits on the port, and none is held. A held word
is offered but "neither lost nor applied" (00_scope.md R10), so it is still to be given (log 16). -/
def noMoreWords (s : State) : Bool :=
  s.cmdIn.isEmpty && s.held.isEmpty

/-- The run has ended: the environment has no more words to give and the state is quiescent (60_exceptions.md R282). It may
still hold a packet that waits for an acknowledge, buffered events, a byte in the window, a partial frame, or DRAIN = 1. -/
def runEnded (s : State) : Bool :=
  noMoreWords s && quiescent s

/-- The window holds a byte1 that passes the check, so that the next byte is its byte2; otherwise the next byte stands as
byte1 (30_encoding.md R81, 40_deserializer.md R122). -/
def nextBytePos (s : State) : BytePos :=
  if s.dwl && s.dw0.getLsbD 7 then .second else .first

/-- ACK_LINE v is an edge when the level changes, in either direction (43_transmitter.md R193). -/
def ackEdge (s : State) (v : Bool) : Bool :=
  v != s.ackIn

/-- The edges a change of the receive lines to `v` makes: one for each line that changed (45_receiver.md R240). -/
def lineEdges (s : State) (v : Symbol) : Nat :=
  popcount (s.rxLines ^^^ v)

/-- The block's tally reaches the threshold (41_aggregator.md R143, R146). -/
def emits (m : Mode) (t : Tally) : Bool :=
  decide (threshold m ≤ t.count)

/-- The majority polarity; a tie gives 0 (41_aggregator.md R146). -/
def majority (t : Tally) : Polarity :=
  if t.neg < t.pos then 1 else 0

/-- The sequencer's state (43_transmitter.md R192). -/
def sequencerState (s : State) : SequencerState :=
  if s.txHas then (if s.txGate then .sending else .waitForAck) else .idle

/-- A controller's state (44_forwarding.md R224). -/
def controllerState (f : Fwd) : ControllerState :=
  match f.active, f.armed with
  | false, false => .off
  | true, false => .onNoDeadline
  | true, true => .onUntilDeadline
  | false, true => .unreachable

end Sys2Proof.Machine
end

