-- ==== Sys2Proof/Machine/Ops.lean ====
section
/-! DEFINITION. The shared operations over the state: queues, streams, gate, controllers, aggregator, encoder, window and
receive frame. TAKING AN EXCEPTION and returning from one do not exist on this block (60_exceptions.md R270, R275): there
is no operation for them. -/

namespace Sys2Proof.Machine

/-! ### Gate and streams -/

/-- A release of the binary gate (20_memory.md R74). -/
def releaseGate (s : State) : State :=
  { s with txGate := true }

/-- A take of the gate (20_memory.md R74). -/
def takeGate (s : State) : State :=
  { s with txGate := false }

/-- Bytes written to the host channel in one step, contiguous (10_state.md R42, 20_memory.md R68). -/
def emitHost (bs : List Byte) (s : State) : State :=
  { s with hostOut := s.hostOut ++ bs }

/-- A decoded value delivered for local consumption (10_state.md R43). -/
def emitLocal (v : Payload) (s : State) : State :=
  { s with localOut := s.localOut ++ [v] }

/-! ### Command port -/

/-- A class C operation is held: not applied, and not lost (30_encoding.md R96; log 3). -/
def holdCommand (i : Instr) (s : State) : State :=
  { s with held := s.held ++ [i] }

/-- A class C operation with effect `f`: held while DRAIN = 1, applied otherwise (30_encoding.md R96). -/
def commandStep (i : Instr) (f : State → State) (s : State) : State :=
  if s.drain then holdCommand i s else f s

/-- `refuse(reserved_command)`: a refusal mark, the block state unchanged (00_scope.md R10, 30_encoding.md R97; log 4). -/
def markRefused (w : Word) (s : State) : State :=
  { s with refusals := s.refusals ++ [w] }

/-! ### Forwarding controllers -/

/-- FWD[k] (10_state.md R36). -/
def getFwd (k : Path) (s : State) : Fwd :=
  match k with
  | .S => s.fwdS
  | .L => s.fwdL

/-- FWD[k] <- f. -/
def setFwd (k : Path) (f : Fwd) (s : State) : State :=
  match k with
  | .S => { s with fwdS := f }
  | .L => { s with fwdL := f }

/-- A controller enabled with timeout `t`; t = 0 disarms it and leaves REM (44_forwarding.md R220). -/
def fwdOn (t : BitVec 24) (f : Fwd) : Fwd :=
  if t = 0 then { f with active := true, armed := false } else { active := true, armed := true, rem := t }

/-- A controller disabled; REM is left as it was (44_forwarding.md R221). -/
def fwdOff (f : Fwd) : Fwd :=
  { f with active := false, armed := false }

/-- One TICK of a controller (44_forwarding.md R223). -/
def tickFwd (f : Fwd) : Fwd :=
  if f.armed then
    if f.rem - 1 = 0 then { active := false, armed := false, rem := 0 } else { f with rem := f.rem - 1 }
  else f

/-- One TICK of the disable path's bounded wait (44_forwarding.md R223). -/
def tickDrain (s : State) : State :=
  if s.drain then
    if s.drainT - 1 = 0 then { s with drain := false, drainT := 0 } else { s with drainT := s.drainT - 1 }
  else s

/-! ### Encoder -/

/-- ENQUEUE(pkt): a full PKTQ loses its oldest packet first (42_encoder.md R173). -/
def enqueue (pkt : Packet) (s : State) : State :=
  { s with pktq := (if s.pktq.length = s.prm.pktQCap then s.pktq.tail else s.pktq) ++ [pkt] }

/-- ENC(e) (42_encoder.md R174). -/
def enc (e : Event) (s : State) : State :=
  enqueue (packetOf s.prm (payload s.prm s.mode e)) s

/-! ### Aggregator -/

/-- Every slot is freed and HWM <- 0 (41_aggregator.md R140). -/
def clearSlots (s : State) : State :=
  { s with slots := s.slots.map freeSlot, hwm := 0 }

/-- Step 2 of AGG: the event into slot `i`, the mark raised (41_aggregator.md R143). -/
def insertSlot (i : Nat) (e : Event) (s : State) : State :=
  { s with
    slots := s.slots.set i { occ := true, x := e.x, y := e.y, p := e.p }
    hwm := max s.hwm (i + 1) }

/-- The tally of a block in the present slots (41_aggregator.md R145). -/
def tally (b : Block) (s : State) : Tally :=
  tallyOf b s.slots s.hwm

/-- The state part of EMIT: contributors freed, the mark scanned down (41_aggregator.md R146). -/
def emitFree (b : Block) (s : State) : State :=
  let slots := freeContributors b s.slots s.hwm
  { s with slots := slots, hwm := scanDown slots s.hwm }

/-- The event EMIT returns: the block's minimum corner and majority polarity (41_aggregator.md R146). -/
def coarseEvent (b : Block) (t : Tally) : Event where
  x := BitVec.ofNat 7 b.minX
  y := BitVec.ofNat 7 b.minY
  p := majority t

/-- AGG(e) (41_aggregator.md R143 to R147): the coarse event, if the insert completes its block, and the new state. -/
def agg (e : Event) (s : State) : Option Event × State :=
  match firstFree s.slots with
  | none => (none, s)
  | some i =>
    let s1 := insertSlot i e s
    let b := blockOf s.mode e
    let t := tally b s1
    if emits s.mode t then (some (coarseEvent b t), emitFree b s1) else (none, s1)

/-- AGG_IN(e), the aggregator's dispatch (41_aggregator.md R142). -/
def aggIn (e : Event) (s : State) : State :=
  if s.mode = .full then enc e s
  else
    match agg e s with
    | (some e2, s1) => enc e2 s1
    | (none, s1) => s1

/-! ### Deserializer -/

/-- push(BQ, b), or the byte dropped when BQ is full (40_deserializer.md R120). -/
def pushByte (b : Byte) (s : State) : State :=
  if s.bq.length < s.prm.byteQCap then { s with bq := s.bq ++ [b] } else s

/-- `b` becomes byte1 of the window (40_deserializer.md R122). -/
def startWindow (b : Byte) (s : State) : State :=
  { s with dw0 := b, dwl := true }

/-- The window is emptied (40_deserializer.md R122). -/
def resetWindow (s : State) : State :=
  { s with dwl := false }

/-- The event of a valid frame byte1 = DW0, byte2 = `b` (40_deserializer.md R122). -/
def frameEvent (s : State) (b : Byte) : Event where
  x := b.extractLsb' 0 7
  y := s.dw0.extractLsb' 0 7
  p := b.extractLsb' 7 1

/-- WINDOW(b) (40_deserializer.md R122). DWL is one bit, so the overflow arm of R124 cannot be written (log 10). -/
def window (b : Byte) (s : State) : State :=
  if s.dwl then
    if s.dw0.getLsbD 7 then aggIn (frameEvent s b) (resetWindow s)
    else startWindow b s
  else startWindow b s

/-! ### Transmitter -/

/-- A symbol forwarded to the host, with the terminator after every 11th (43_transmitter.md R191). -/
def forwardSymbol (sym : Symbol) (s : State) : State :=
  if s.txFcnt = 10 then { emitHost [symbolByte sym, s.prm.term] s with txFcnt := 0 }
  else { emitHost [symbolByte sym] s with txFcnt := s.txFcnt + 1 }

/-- A symbol driven on the bus: TX_OUT <- TX_OUT ^ s, traced (43_transmitter.md R191). -/
def driveBus (sym : Symbol) (s : State) : State :=
  { s with txOut := s.txOut ^^^ sym, txTrace := s.txTrace ++ [s.txOut ^^^ sym] }

/-- The next symbol of the packet, or the end of the packet (43_transmitter.md R191). -/
def advancePacket (s : State) : State :=
  if s.txIdx = 10 then { s with txHas := false, txIdx := 0 } else { s with txIdx := s.txIdx + 1 }

/-- TX_PKT[TX_IDX]. -/
def nextSymbol (s : State) : Symbol :=
  s.txPkt[s.txIdx]

/-! ### Receiver -/

/-- A decoded value delivered: to the host while FWD[L].ACTIVE = 1, else locally (45_receiver.md R242). -/
def deliver (v : Payload) (s : State) : State :=
  if s.fwdL.active then emitHost (valueRecord s.prm v) s else emitLocal v s

/-- RX_LEN <- 0 (45_receiver.md R242). -/
def emptyRxBuf (s : State) : State :=
  { s with rxLen := 0 }

/-- The frame's value, or none when it is discarded (45_receiver.md R242). -/
def frameResult (why : FrameEnd) (s : State) : Option Payload :=
  if why = .full ∧ s.prm.rxFullAction = .discard then none
  else if s.rxLen < 6 then none
  else frameValue s.prm s.rxBuf

/-- FRAME_END(why) (45_receiver.md R242). -/
def frameEnd (why : FrameEnd) (s : State) : State :=
  match frameResult why s with
  | some v => emptyRxBuf (deliver v s)
  | none => emptyRxBuf s

/-- The symbol the next sample recovers, smp ^ RX_PREV (45_receiver.md R241). -/
def recoveredSymbol (s : State) : Symbol :=
  s.rxLines ^^^ s.rxPrev

/-- One sample: two edges consumed, the symbol appended, the acknowledge toggled (45_receiver.md R241). -/
def takeSample (s : State) : State :=
  { s with
    rxEdges := s.rxEdges - Config.rxEdgesPerSample
    rxPrev := s.rxLines
    rxBuf := s.rxBuf.set s.rxLen (recoveredSymbol s)
    rxLen := s.rxLen + 1
    rxAck := !s.rxAck }

/-- The end-of-frame test after a sample of symbol `sym`: EOP first, then a full buffer (45_receiver.md R241). -/
def closeFrame (sym : Symbol) (s : State) : State :=
  if sym = eop s.prm then frameEnd .eop s
  else if s.rxLen = s.prm.rxCap then frameEnd .full s
  else s

end Sys2Proof.Machine
end

