-- ==== Sys2Proof/Machine/Aggregator.lean ====
section
/-! DEFINITION. The command operations of the spatial event aggregator (41_aggregator.md): SET_MODE and INJECT. -/

namespace Sys2Proof.Machine

/-- The effect of SET_MODE m (R140). -/
def applyMode (m : Mode) (s : State) : State :=
  if m ≠ s.mode ∨ s.prm.clearOnSameMode = true then { clearSlots s with mode := m } else { s with mode := m }

/-- SET_MODE m (R140); held while DRAIN = 1 (R96). -/
def execSetMode (m : Mode) (s : State) : Host.Outcome State Fault Refusal :=
  .next (commandStep (.setMode m) (applyMode m) s)

/-- INJECT x, y, p (R141); held while DRAIN = 1 (R96). -/
def execInject (x y : Coord) (p : Polarity) (s : State) : Host.Outcome State Fault Refusal :=
  .next (commandStep (.inject x y p) (aggIn { x, y, p }) s)

end Sys2Proof.Machine
end

