-- ==== Sys2Proof/Machine/Deserializer.lean ====
section
/-! DEFINITION. The event frame deserializer: BYTE_IN, DEC_STEP and the three input byte patterns (40_deserializer.md). -/

namespace Sys2Proof.Machine

/-- BYTE_IN b (R120). -/
def execByteIn (b : Byte) (s : State) : Host.Outcome State Fault Refusal :=
  .next (pushByte b s)

/-- FRAME_BYTE1: the decoder is handed the byte `1yyyyyyy`, which the window rule takes as byte1, or as byte2 when a valid
byte1 is waiting (R122; log 8). -/
def execFrameByte1 (y : Coord) (s : State) : Host.Outcome State Fault Refusal :=
  .next (window (0x80#8 ||| y.setWidth 8) s)

/-- RESYNC_BYTE1: the decoder is handed the byte `0bbbbbbb`; as byte1 it waits in DW0 and the next byte replaces it
(R122 corner case 2, R127; log 8). -/
def execResyncByte1 (b : BitVec 7) (s : State) : Host.Outcome State Fault Refusal :=
  .next (window (b.setWidth 8) s)

/-- FRAME_BYTE2: the decoder is handed the byte `pxxxxxxx`; as byte2 of a valid window it completes an event, whatever its
bit 7 (R122 corner case 1; log 8). -/
def execFrameByte2 (p : Polarity) (x : Coord) (s : State) : Host.Outcome State Fault Refusal :=
  .next (window ((p.setWidth 8 <<< 7) ||| x.setWidth 8) s)

/-- DEC_STEP (R121): with BQ empty "the decoder waits" and state does not change. -/
def execDecStep (s : State) : Host.Outcome State Fault Refusal :=
  match s.bq with
  | [] => .next s
  | b :: rest => .next (window b { s with bq := rest })

end Sys2Proof.Machine
end

