-- ==== Sys2Proof/Machine/Forwarding.lean ====
section
/-! DEFINITION. The forwarding controllers and the time base (44_forwarding.md): FWD_ENABLE, FWD_DISABLE and TICK. -/

namespace Sys2Proof.Machine

/-- The effect of FWD_ENABLE k, t: path S also releases the gate (R220). -/
def applyFwdEnable (k : Path) (t : BitVec 24) (s : State) : State :=
  let s1 := setFwd k (fwdOn t (getFwd k s)) s
  match k with
  | .S => releaseGate s1
  | .L => s1

/-- FWD_ENABLE k, t (R220); held while DRAIN = 1 (R96). -/
def execFwdEnable (k : Path) (t : BitVec 24) (s : State) : Host.Outcome State Fault Refusal :=
  .next (commandStep (.fwdEnable k t) (applyFwdEnable k t) s)

/-- The disable path's acquire of the gate, with its bounded wait (R221). -/
def acquireGate (s : State) : State :=
  if s.txGate then takeGate s else { s with drain := true, drainT := Config.drainTimeout }

/-- The effect of FWD_DISABLE k: path S also acquires the gate (R221). -/
def applyFwdDisable (k : Path) (s : State) : State :=
  let s1 := setFwd k (fwdOff (getFwd k s)) s
  match k with
  | .S => acquireGate s1
  | .L => s1

/-- FWD_DISABLE k (R221); held while DRAIN = 1 (R96). -/
def execFwdDisable (k : Path) (s : State) : Host.Outcome State Fault Refusal :=
  .next (commandStep (.fwdDisable k) (applyFwdDisable k) s)

/-- TICK (R223): both timers and the drain count. -/
def execTick (s : State) : Host.Outcome State Fault Refusal :=
  .next (tickDrain { s with fwdS := tickFwd s.fwdS, fwdL := tickFwd s.fwdL })

end Sys2Proof.Machine
end

