-- ==== Sys2Proof/Machine/Receiver.lean ====
section
/-! DEFINITION. The receive sampler and symbol decoder (45_receiver.md): RX_LINES and RX_STEP. -/

namespace Sys2Proof.Machine

/-- RX_LINES v (R240). -/
def execRxLines (v : Symbol) (s : State) : Host.Outcome State Fault Refusal :=
  .next { s with rxEdges := s.rxEdges + lineEdges s v, rxLines := v }

/-- RX_STEP (R241); not enabled, it leaves the state as it is (log 9). -/
def execRxStep (s : State) : Host.Outcome State Fault Refusal :=
  if rxStepEnabled s then .next (closeFrame (recoveredSymbol s) (takeSample s)) else .next s

end Sys2Proof.Machine
end

