-- ==== Sys2Proof/Machine/Transmitter.lean ====
section
/-! DEFINITION. The transmit side of the bus handshake sequencer (43_transmitter.md): TX_FETCH, TX_SEND, ACK_LINE and
DRAIN_TAKE. An internal step that is not enabled leaves the state as it is (60_exceptions.md R288; log 9). -/

namespace Sys2Proof.Machine

/-- TX_FETCH (R190). -/
def execTxFetch (s : State) : Host.Outcome State Fault Refusal :=
  match s.txHas, s.pktq with
  | false, pkt :: rest => .next { s with pktq := rest, txPkt := pkt, txIdx := 0, txHas := true }
  | _, _ => .next s

/-- One symbol to the host, the gate re-released at once (R191). -/
def sendToHost (s : State) : State :=
  advancePacket (releaseGate (forwardSymbol (nextSymbol s) (takeGate s)))

/-- One symbol on the bus, the gate left taken (R191). -/
def sendToBus (s : State) : State :=
  advancePacket (driveBus (nextSymbol s) (takeGate s))

/-- TX_SEND (R191). -/
def execTxSend (s : State) : Host.Outcome State Fault Refusal :=
  if txSendEnabled s then .next (if s.fwdS.active then sendToHost s else sendToBus s) else .next s

/-- ACK_LINE v (R193). -/
def execAckLine (v : Bool) (s : State) : Host.Outcome State Fault Refusal :=
  if ackEdge s v then .next (releaseGate { s with ackIn := v }) else .next s

/-- DRAIN_TAKE (R194). -/
def execDrainTake (s : State) : Host.Outcome State Fault Refusal :=
  if drainTakeEnabled s then .next { takeGate s with drain := false, drainT := 0 } else .next s

end Sys2Proof.Machine
end

