-- ==== Sys2Proof/Machine/Dispatch.lean ====
section
/-! DEFINITION. One arm per operation, each one direct call of its meaning. -/

namespace Sys2Proof.Machine

def exec (i : Instr) (s : State) : Host.Outcome State Fault Refusal :=
  match i with
  | .byteIn b => Sys2Proof.Machine.execByteIn b s
  | .setMode m => Sys2Proof.Machine.execSetMode m s
  | .inject x y p => Sys2Proof.Machine.execInject x y p s
  | .fwdEnable k t => Sys2Proof.Machine.execFwdEnable k t s
  | .fwdDisable k => Sys2Proof.Machine.execFwdDisable k s
  | .tick => Sys2Proof.Machine.execTick s
  | .ackLine v => Sys2Proof.Machine.execAckLine v s
  | .rxLines v => Sys2Proof.Machine.execRxLines v s
  | .frameByte1 y => Sys2Proof.Machine.execFrameByte1 y s
  | .resyncByte1 b => Sys2Proof.Machine.execResyncByte1 b s
  | .frameByte2 p x => Sys2Proof.Machine.execFrameByte2 p x s
  | .decStep => Sys2Proof.Machine.execDecStep s
  | .txFetch => Sys2Proof.Machine.execTxFetch s
  | .txSend => Sys2Proof.Machine.execTxSend s
  | .drainTake => Sys2Proof.Machine.execDrainTake s
  | .rxStep => Sys2Proof.Machine.execRxStep s

end Sys2Proof.Machine
end

