-- ==== Sys2Proof/Machine/Fetch.lean ====
section
/-! DEFINITION. Which operation the next step runs (60_exceptions.md R280, R281), and starting an instantiation (R272). -/

namespace Sys2Proof.Machine

/-- Whose turn it is: the head of `turns`, or a free choice when the state names none (R281; log 2). -/
def currentTurn (s : State) : Turn :=
  match s.turns with
  | t :: _ => t
  | [] => Config.freeTurn s.turnNo

/-- The turn is over. -/
def passTurn (s : State) : State :=
  { s with turns := s.turns.tail, turnNo := s.turnNo + 1 }

/-- The environment's turn: its next command word, taken off the port (R95, R97; log 1). -/
def fetchWord (s : State) : Fetched × State :=
  match s.cmdIn with
  | [] => (.nothing, s)
  | w :: rest =>
    match decodeWord w with
    | some i => (.run i, { s with cmdIn := rest })
    | none => (.reserved w, { s with cmdIn := rest })

/-- The turn of the held class C operation number `n`: it becomes enabled when DRAIN = 0 (R10, R96; log 3). -/
def fetchHeld (n : Nat) (s : State) : Fetched × State :=
  if s.drain then (.nothing, s)
  else
    match s.held[n]? with
    | some i => (.run i, { s with held := s.held.eraseIdx n })
    | none => (.nothing, s)

/-- The internal step TX may take: TX_FETCH while it holds no packet, TX_SEND while it holds one (R280). -/
def txInstr (s : State) : Instr :=
  if s.txHas then .txSend else .txFetch

/-- What the turn `t` runs, and the state it runs in (R280). -/
def fetchTurn (t : Turn) (s : State) : Fetched × State :=
  match t with
  | .env => fetchWord s
  | .held n => fetchHeld n s
  | .dec => (.run .decStep, s)
  | .tx => (.run (txInstr s), s)
  | .cmd => (.run .drainTake, s)
  | .rx => (.run .rxStep, s)

/-- What this step runs, and the state it runs in: the present turn, passed. -/
def fetch (s : State) : Fetched × State :=
  fetchTurn (currentTurn s) (passTurn s)

/-- A command word offered next on the port, and the environment's turn (log 1). -/
def offerWord (w : Word) (s : State) : State :=
  { s with cmdIn := w :: s.cmdIn, turns := .env :: s.turns }

/-- An input byte at the head of BQ, the window empty so that the byte stands as byte1, and the decoder's turn (log 8). -/
def offerByte (b : Byte) (s : State) : State :=
  { s with bq := b :: s.bq, dwl := false, turns := .dec :: s.turns }

/-- The block instantiated with a parameter set: reset, or `refuse(bad_parameters)` before the first step (R1, R272). -/
def instantiate (p : Params) : Host.Outcome State Fault Refusal :=
  if h : p.wf = true then .next (State.powerOn { params := p, ok := h }) else .refused .badParameters

end Sys2Proof.Machine
end

