-- ==== Sys2Proof/Machine/Step.lean ====
section
/-! DEFINITION. One step of the machine: one atomic operation of the agent whose turn it is (00_scope.md R11,
60_exceptions.md R281). -/

namespace Sys2Proof.Machine

/-- One step. A reserved word leaves the block state unchanged and a mark behind (R97); a turn with no enabled step takes
no step (R288). -/
def step (s : State) : Host.Outcome State Fault Refusal :=
  match fetch s with
  | (.run i, s1) => exec i s1
  | (.reserved w, s1) => .next (markRefused w s1)
  | (.nothing, s1) => .next s1

/-- `s` with the instruction of the table's bits `w` where the next step takes it: a command word on the port, or an input
byte at the decoder (log 1, log 8). -/
def State.withFetchWord (s : State) (nbits w : Nat) : State :=
  if nbits = 32 then offerWord (BitVec.ofNat 32 w) s
  else if nbits = 8 then offerByte (BitVec.ofNat 8 w) s
  else s

end Sys2Proof.Machine
end

