-- ==== Sys2Proof/Safety.lean ====
section
/-! DEFINITION. What the claims speak of: runs of operations, the invariants of the state, the constraints of an
instantiation as propositions, and what a safe run is. -/

namespace Sys2Proof.Safety

open Sys2Proof.Machine

/-! ### Runs -/

/-- The operations of a list, one after the other, until one stops. -/
def runOps : List Instr → State → Host.Outcome State Fault Refusal
  | [], s => .next s
  | i :: rest, s =>
    match exec i s with
    | .next s1 => runOps rest s1
    | .fault r => .fault r
    | .refused r => .refused r

/-- A step is safe when it answers a next state and leaves no new refusal mark (30_encoding.md R97). -/
def SafeStep (s : State) : Prop :=
  ∃ t, step s = .next t ∧ t.refusals = s.refusals

/-! ### Constraints of an instantiation (00_scope.md R1 to R5) -/

/-- The constraints R1, R2, R3 and R5 put on a parameter set, in words of the rules. -/
structure ParamsOk (p : Params) : Prop where
  weight : p.weight = 2 ∨ p.weight = 3
  symWeight : ∀ n : Fin 17, popcount p.sym[n] = p.weight
  symDistinct : ∀ m n : Fin 17, p.sym[m] = p.sym[n] → m = n
  hdrDistinct : p.hdr[0] ≠ p.hdr[1]
  term : p.term.toNat ≤ 0x1F ∨ p.term = 0x7F
  byteQCap : 1 ≤ p.byteQCap
  pktQCap : 1 ≤ p.pktQCap
  rxCap : 1 ≤ p.rxCap

/-- The bits of a command word that its row does not name, by its opcode (30_encoding.md R95). -/
def reservedBits (op : BitVec 4) : Word :=
  if op = 1 then 0x0FFFFF00
  else if op = 2 then 0x0FFFFFFC
  else if op = 3 then 0x0FFE8080
  else if op = 4 then 0x0E000000
  else if op = 5 then 0x0EFFFFFF
  else if op = 6 then 0x0FFFFFFF
  else if op = 7 then 0x0FFFFFFE
  else if op = 8 then 0x0FFFFF80
  else 0

/-- A reserved command word: OP is 0x0 or 0x9..0xF, or a bit its row does not name is set (30_encoding.md R97). -/
def ReservedWord (w : Word) : Prop :=
  w.extractLsb' 28 4 = 0 ∨ 9 ≤ (w.extractLsb' 28 4).toNat ∨ w &&& reservedBits (w.extractLsb' 28 4) ≠ 0

/-! ### Slots -/

/-- Slot number `j` (a free slot beyond the array). -/
def slotAt (s : State) (j : Nat) : Slot :=
  s.slots.getD j Slot.free

/-- Every slot is occupied (70_reset_and_hazards.md R300). -/
def Saturated (s : State) : Prop :=
  ∀ c ∈ s.slots, c.occ = true

/-- The number of occupied slots. -/
def occupied (s : State) : Nat :=
  s.slots.countP fun c => c.occ

/-- The coordinates lie in the same block of width `w` as the event's (41_aggregator.md R144). -/
def sameBlock (w : Nat) (e : Event) (c : Slot) : Bool :=
  decide (c.x.toNat / w = e.x.toNat / w) && decide (c.y.toNat / w = e.y.toNat / w)

/-- The numbers j < h of the slots that are occupied, lie in the event's block and satisfy `f` (41_aggregator.md R145). -/
def contributors (w : Nat) (e : Event) (h : Nat) (slots : List Slot) (f : Slot → Bool) : List Nat :=
  (List.range h).filter fun j =>
    let c := slots.getD j Slot.free
    c.occ && sameBlock w e c && f c

/-! ### Invariants -/

/-- 10_state.md R28: HWM is 1 + the highest occupied index, or 0; at Full every slot is free. -/
structure SlotsWf (s : State) : Prop where
  length : s.slots.length = Config.aggCap
  above : ∀ j, s.hwm ≤ j → (slotAt s j).occ = false
  top : s.hwm = 0 ∨ (slotAt s (s.hwm - 1)).occ = true
  full : s.mode = .full → ∀ j, (slotAt s j).occ = false

/-- The queues keep within their capacities (10_state.md R22, R29). -/
structure QueuesWf (s : State) : Prop where
  bytes : s.bq.length ≤ s.prm.byteQCap
  packets : s.pktq.length ≤ s.prm.pktQCap

/-- A whole packet: the 11 symbols of a payload whose bit 15 is 1, with that payload's parity (30_encoding.md R84, R87). -/
def WholePacket (c : Params) (pkt : Packet) : Prop :=
  ∃ pl : Payload, pl.getLsbD 15 = true ∧ pkt = packetOf c pl

/-- 20_memory.md R68: queue and transmitter hold whole packets only; 10_state.md R21: TX_IDX is 0 between packets. -/
structure PacketsWf (s : State) : Prop where
  queued : ∀ pkt ∈ s.pktq, WholePacket s.prm pkt
  inFlight : s.txHas = true → WholePacket s.prm s.txPkt
  index : s.txHas = false → s.txIdx = 0

/-- 10_state.md R32, R44: the bus shows the last value driven, or its reset value. -/
def BusWf (s : State) : Prop :=
  s.txOut = s.txTrace.getLast?.getD 0

/-- 44_forwarding.md R223, R224: an armed controller is active and has at least one TICK left. -/
def FwdWf (f : Fwd) : Prop :=
  f.armed = true → f.active = true ∧ f.rem ≠ 0

/-- 10_state.md R35: DRAIN_T counts 1..P_DRAIN_TIMEOUT while DRAIN = 1 and is 0 otherwise. -/
def DrainWf (s : State) : Prop :=
  if s.drain then 1 ≤ s.drainT ∧ s.drainT ≤ Config.drainTimeout else s.drainT = 0

/-- 10_state.md R40, 30_encoding.md R90: the buffer has its capacity, is not full between steps, and holds no EOP. -/
structure RxWf (s : State) : Prop where
  length : s.rxBuf.length = s.prm.rxCap
  fill : s.rxLen < s.prm.rxCap
  noEop : eop s.prm ∉ receivedFrame s

/-- 30_encoding.md R96: only class C operations are held. -/
def HeldWf (s : State) : Prop :=
  ∀ i ∈ s.held, i.opClass = .command

/-- The invariant of the block. -/
structure Inv (s : State) : Prop where
  slots : SlotsWf s
  queues : QueuesWf s
  packets : PacketsWf s
  bus : BusWf s
  fwdS : FwdWf s.fwdS
  fwdL : FwdWf s.fwdL
  drain : DrainWf s
  rx : RxWf s
  held : HeldWf s

/-! ### Outputs -/

/-- The state with its three output streams emptied. -/
def withoutOutputs (s : State) : State :=
  { s with hostOut := [], localOut := [], txTrace := [] }

/-! ### Transition coding (43_transmitter.md R195) -/

/-- The bus levels c ^ s_1, c ^ s_1 ^ s_2, ... of a run of symbols sent from the level `c`. -/
def driveLevels (c : Symbol) : List Symbol → List Symbol
  | [] => []
  | s :: rest => (c ^^^ s) :: driveLevels (c ^^^ s) rest

/-- The symbols a receiver recovers by XOR of consecutive samples, its previous sample being `r`. -/
def recover (r : Symbol) : List Symbol → List Symbol
  | [] => []
  | t :: rest => (t ^^^ r) :: recover t rest

/-- `n` bus sends, each after one acknowledge edge. -/
def ackedSends : Nat → State → Host.Outcome State Fault Refusal
  | 0, s => .next s
  | n + 1, s =>
    match runOps [.ackLine (!s.ackIn), .txSend] s with
    | .next s1 => ackedSends n s1
    | o => o

/-- `n` bus sends, each after one acknowledge edge and each drive fed back to the receive lines and sampled once
(45_receiver.md R244). -/
def loopback : Nat → State → Host.Outcome State Fault Refusal
  | 0, s => .next s
  | n + 1, s =>
    match runOps [.ackLine (!s.ackIn), .txSend] s with
    | .next s1 =>
      match runOps [.rxLines s1.txOut, .rxStep] s1 with
      | .next s2 => loopback n s2
      | o => o
    | o => o

end Sys2Proof.Safety
end

