-- ==== Sys2Proof/Certificates/Slice0/Obligations.lean ====
section
/-! DEFINITION. The statements for the provers. Each docstring names the rule of spec/ it formalises. A state is any state
whatever unless a premise says otherwise. -/

open Sys2Proof Sys2Proof.Machine Sys2Proof.Safety

/-! ### Encoding -/

/-- R95, R81, R98: the encoding of every operation that has one decodes to that operation, with every operand; the five
internal steps are exactly those without an encoding. -/
def Obligations.EncodingDecodesToItself : Prop :=
  ∀ i : Instr,
    (encode i = .internal ↔ i = .decStep ∨ i = .txFetch ∨ i = .txSend ∨ i = .drainTake ∨ i = .rxStep) ∧
    (encode i ≠ .internal → decode (encode i) = some i)

/-- R95, R81: a command word that decodes is the encoding of what it decodes to, and so is a byte at a window position. -/
def Obligations.DecodedWordIsItsEncoding : Prop :=
  (∀ (w : Word) (i : Instr), decodeWord w = some i → encode i = .word w) ∧
  (∀ (pos : BytePos) (b : Byte), encode (decodeByte pos b) = .byte pos b)

/-- R97: the reserved words are exactly those that select no operation, and the step that takes one changes nothing of the
block: it takes the word off the port and keeps a refusal mark. The turn may be named by the state or free (log 2). -/
def Obligations.ReservedWordRefusedStateUnchanged : Prop :=
  (∀ w : Word, ReservedWord w ↔ decodeWord w = none) ∧
  (∀ (s : State) (w : Word) (ws : List Word),
    currentTurn s = .env → s.cmdIn = w :: ws → ReservedWord w →
    step s = .next { passTurn s with cmdIn := ws, refusals := s.refusals ++ [w] })

/-- R81: an input byte as byte1 is classified by its bit 7; as byte2 it is polarity and x. -/
def Obligations.InputByteClassifiedByBitSeven : Prop :=
  ∀ b : Byte,
    (b.getLsbD 7 = true → decodeByte .first b = .frameByte1 (b.extractLsb' 0 7)) ∧
    (b.getLsbD 7 = false → decodeByte .first b = .resyncByte1 (b.extractLsb' 0 7)) ∧
    decodeByte .second b = .frameByte2 (b.extractLsb' 7 1) (b.extractLsb' 0 7)

/-- R95, R102, R83: sample words, written out from the layout, decode to the operations they stand for, with the code of
every mode and both paths. -/
def Obligations.SampleWordsDecode : Prop :=
  decodeWord 0x10000055 = some (.byteIn 0x55) ∧
  decodeWord 0x20000000 = some (.setMode .full) ∧
  decodeWord 0x20000001 = some (.setMode .half) ∧
  decodeWord 0x20000002 = some (.setMode .quarter) ∧
  decodeWord 0x20000003 = some (.setMode .eighth) ∧
  decodeWord 0x30010604 = some (.inject 4 6 1) ∧
  decodeWord 0x41000005 = some (.fwdEnable .L 5) ∧
  decodeWord 0x40FFFFFF = some (.fwdEnable .S 0xFFFFFF) ∧
  decodeWord 0x51000000 = some (.fwdDisable .L) ∧
  decodeWord 0x60000000 = some .tick ∧
  decodeWord 0x70000001 = some (.ackLine true) ∧
  decodeWord 0x8000007F = some (.rxLines 0x7F)

/-! ### The step -/

/-- R281, as the model writes it (log 2): whose turn it is is the first turn the state names, and a free choice where it
names none. Passing the turn takes it off, counts the step, and changes nothing else. -/
def Obligations.TurnIsNamedOrFree : Prop :=
  ∀ (s : State),
    (∀ (t : Turn) (ts : List Turn), s.turns = t :: ts →
      currentTurn s = t ∧ passTurn s = { s with turns := ts, turnNo := s.turnNo + 1 }) ∧
    (s.turns = [] →
      currentTurn s = Config.freeTurn s.turnNo ∧ passTurn s = { s with turnNo := s.turnNo + 1 })

/-- R11, R95: the environment's turn, named or free, runs exactly the operation its next command word decodes to, in the
state from which the turn and the word are taken off. With no word on the port only the turn is passed (R288, log 1). -/
def Obligations.StepRunsDecodedWord : Prop :=
  ∀ (s : State), currentTurn s = .env →
    (∀ (w : Word) (ws : List Word) (i : Instr), s.cmdIn = w :: ws → decodeWord w = some i →
      step s = exec i { passTurn s with cmdIn := ws }) ∧
    (s.cmdIn = [] → step s = .next (passTurn s))

/-- R280: the turn of DEC, TX, CMD or RX, named or free (log 2), runs that agent's internal step; for TX it is TX_FETCH
when TX_HAS = 0 and TX_SEND when TX_HAS = 1. -/
def Obligations.StepRunsInternalStepOfAgent : Prop :=
  ∀ (s : State),
    (currentTurn s = .dec → step s = exec .decStep (passTurn s)) ∧
    (currentTurn s = .tx → s.txHas = false → step s = exec .txFetch (passTurn s)) ∧
    (currentTurn s = .tx → s.txHas = true → step s = exec .txSend (passTurn s)) ∧
    (currentTurn s = .cmd → step s = exec .drainTake (passTurn s)) ∧
    (currentTurn s = .rx → step s = exec .rxStep (passTurn s))

/-- R10, R96: a held operation is applied, once, on its turn when DRAIN = 0. While DRAIN = 1 it stays held, and its turn,
like the turn of a number that holds nothing, is only passed. The turn itself, named or free, is the model's (log 2,
log 3). -/
def Obligations.HeldOperationWaitsForDrain : Prop :=
  ∀ (s : State) (n : Nat), currentTurn s = .held n →
    (∀ i : Instr, s.held[n]? = some i → s.drain = false →
      step s = exec i { passTurn s with held := s.held.eraseIdx n }) ∧
    (s.held[n]? = none → step s = .next (passTurn s)) ∧
    (s.drain = true → step s = .next (passTurn s))

/-- R121, R190, R191, R194, R241: DEC_STEP on an empty BQ, and an internal step whose condition does not hold, leave the
state as it is. -/
def Obligations.DisabledInternalStepDoesNothing : Prop :=
  ∀ s : State,
    (s.bq = [] → exec .decStep s = .next s) ∧
    (s.txHas = true ∨ s.pktq = [] → exec .txFetch s = .next s) ∧
    (s.txHas = false ∨ s.txGate = false → exec .txSend s = .next s) ∧
    (s.drain = false ∨ s.txGate = false → exec .drainTake s = .next s) ∧
    (s.rxEdges < 2 → exec .rxStep s = .next s)

/-- R270: no step of any state ends in a fault or a refusal. -/
def Obligations.EveryStepAnswersNextState : Prop :=
  ∀ s : State, ∃ t, step s = .next t

/-! ### Instantiation and reset -/

/-- R1: an instantiation that breaks a constraint of R1, R2, R3 or R5 is refused; any other starts in the reset state with
its parameters. -/
def Obligations.BadParametersRefused : Prop :=
  ∀ p : Params,
    (¬ ParamsOk p → instantiate p = .refused .badParameters) ∧
    (ParamsOk p → ∃ c : Cfg, c.params = p ∧ instantiate p = .next (State.powerOn c))

/-- R47: every value the reset table states. -/
def Obligations.ResetStateHasTableValues : Prop :=
  let s := State.reset
  s.bq = [] ∧ s.dwl = false ∧ s.mode = .full ∧
  (s.slots.length = 500 ∧ ∀ c ∈ s.slots, c.occ = false) ∧ s.hwm = 0 ∧ s.pktq = [] ∧
  s.txHas = false ∧ s.txIdx = 0 ∧ s.txGate = false ∧ s.txOut = 0 ∧ s.txFcnt = 0 ∧ s.ackIn = false ∧
  s.drain = false ∧ s.drainT = 0 ∧
  s.fwdS = { active := false, armed := false, rem := 0 } ∧
  s.fwdL = { active := false, armed := false, rem := 0 } ∧
  s.rxLines = 0 ∧ s.rxEdges = 0 ∧ s.rxPrev = 0 ∧ s.rxLen = 0 ∧ s.rxAck = false ∧
  s.hostOut = [] ∧ s.localOut = [] ∧ s.txTrace = []

/-- The invariant holds right after reset, whatever the OPEN parameters. -/
def Obligations.ResetSatisfiesInvariant : Prop :=
  Inv State.reset

/-! ### Deserializer -/

/-- R120: BYTE_IN, class I, appends its byte, or drops it when BQ is full; nothing else changes. -/
def Obligations.ByteInAppendsOrDropsByte : Prop :=
  ∀ (s : State) (b : Byte),
    encode (.byteIn b) = .word (0x10000000#32 ||| b.setWidth 32) ∧ (Instr.byteIn b).opClass = .interrupt ∧
    (s.bq.length < s.prm.byteQCap → exec (.byteIn b) s = .next { s with bq := s.bq ++ [b] }) ∧
    (s.prm.byteQCap ≤ s.bq.length → exec (.byteIn b) s = .next s)

/-- R122: what the window does with a byte `b` handed to it: on an empty window, or on a byte1 whose bit 7 is clear, `b`
becomes byte1; on a valid byte1 the frame's event goes to the aggregator and the window is empty. It holds of each of the
three byte patterns, and of DEC_STEP for the byte at the head of BQ. -/
def Obligations.WindowRuleForEveryByte : Prop :=
  ∀ (s : State) (b : Byte) (i : Instr),
    (∃ y, i = .frameByte1 y ∧ b = 0x80#8 ||| y.setWidth 8) ∨
    (∃ z, i = .resyncByte1 z ∧ b = z.setWidth 8) ∨
    (∃ p x, i = .frameByte2 p x ∧ b = (p.setWidth 8 <<< 7) ||| x.setWidth 8) →
    ((s.dwl = false ∨ s.dw0.getLsbD 7 = false) → exec i s = .next { s with dw0 := b, dwl := true }) ∧
    (s.dwl = true → s.dw0.getLsbD 7 = true →
      exec i s = .next (aggIn { x := b.extractLsb' 0 7, y := s.dw0.extractLsb' 0 7, p := b.extractLsb' 7 1 }
        { s with dwl := false }))

/-- R121, R122: DEC_STEP pops one byte and applies the window rule to it in the same step. -/
def Obligations.DecStepPopsByteIntoWindow : Prop :=
  ∀ (s : State) (b : Byte) (rest : List Byte), s.bq = b :: rest →
    ((s.dwl = false ∨ s.dw0.getLsbD 7 = false) →
      exec .decStep s = .next { s with bq := rest, dw0 := b, dwl := true }) ∧
    (s.dwl = true → s.dw0.getLsbD 7 = true →
      exec .decStep s = .next (aggIn
        { x := b.extractLsb' 0 7, y := s.dw0.extractLsb' 0 7, p := b.extractLsb' 7 1 }
        { s with bq := rest, dwl := false }))

/-- DEC_STEP does with the byte it pops what the byte's own pattern, read at its window position, does (R121, R122). That a
byte pattern of R81 is an operation with a meaning of its own is the model's choice (log 8). -/
def Obligations.DecStepRunsBytePattern : Prop :=
  ∀ (s : State) (b : Byte) (rest : List Byte), s.bq = b :: rest →
    exec .decStep s = exec (decodeByte (nextBytePos s) b) { s with bq := rest }

/-- R125: after any number of leading bytes with bit 7 clear the decoder has emitted nothing, and from the valid pair that
follows exactly its event. -/
def Obligations.LeadingBytesResynchronise : Prop :=
  ∀ (s : State) (cs rest : List Byte) (x y : Coord) (p : Polarity),
    s.dwl = false → (∀ c ∈ cs, c.getLsbD 7 = false) →
    s.bq = cs ++ [0x80#8 ||| y.setWidth 8, (p.setWidth 8 <<< 7) ||| x.setWidth 8] ++ rest →
    (∀ k ≤ cs.length, ∃ d w, runOps (List.replicate k .decStep) s =
      .next { s with bq := s.bq.drop k, dw0 := d, dwl := w }) ∧
    runOps (List.replicate (cs.length + 2) .decStep) s =
      .next (aggIn { x, y, p } { s with bq := rest, dw0 := 0x80#8 ||| y.setWidth 8, dwl := false })

/-! ### Aggregator -/

/-- R140: SET_MODE with DRAIN = 0. A change of mode, or any request when P_CLEAR_ON_SAME_MODE, frees every slot (X, Y and P
stay) and HWM; otherwise only MODE is written. -/
def Obligations.SetModeClearsSlots : Prop :=
  ∀ (s : State) (m : Mode), s.drain = false →
    (m ≠ s.mode ∨ s.prm.clearOnSameMode = true → ∃ slots,
      exec (.setMode m) s = .next { s with mode := m, slots := slots, hwm := 0 } ∧
      slots.length = s.slots.length ∧
      ∀ j, slots.getD j Slot.free = { s.slots.getD j Slot.free with occ := false }) ∧
    (m = s.mode ∧ s.prm.clearOnSameMode = false → exec (.setMode m) s = .next { s with mode := m })

/-- R141: INJECT with DRAIN = 0 hands its event to the aggregator's input, as the window rule does with a decoded event. -/
def Obligations.InjectEntersAggregatorInput : Prop :=
  ∀ (s : State) (x y : Coord) (p : Polarity), s.drain = false →
    exec (.inject x y p) s = .next (aggIn { x, y, p } s)

/-- R142, R173, R174: at Full an event that enters the aggregator, whatever DRAIN, is encoded at once: its packet is appended
to PKTQ, a full PKTQ losing its oldest packet first. Nothing else changes. INJECT with DRAIN = 0 does exactly this. -/
def Obligations.InjectAtFullQueuesPacket : Prop :=
  ∀ (s : State) (x y : Coord) (p : Polarity), s.mode = .full →
    let pkt := packetOf s.prm (0x8000#16 ||| (p.setWidth 16 <<< 14) ||| packBits s.prm .full x y)
    let t := { s with pktq := (if s.pktq.length = s.prm.pktQCap then s.pktq.tail else s.pktq) ++ [pkt] }
    aggIn { x, y, p } s = t ∧ (s.drain = false → exec (.inject x y p) s = .next t)

/-- R143 step 1: with every slot occupied, at a mode other than Full, an event that enters the aggregator, whatever DRAIN, is
dropped and nothing changes. INJECT with DRAIN = 0 does exactly this. -/
def Obligations.InjectDroppedWhenSaturated : Prop :=
  ∀ (s : State) (x y : Coord) (p : Polarity), s.mode ≠ .full → Saturated s →
    aggIn { x, y, p } s = s ∧ (s.drain = false → exec (.inject x y p) s = .next s)

/-- R143, R145, R147: an event that enters the aggregator, whatever DRAIN, goes into the first free slot; when its block
stays below (w*w) div 2 events it is only buffered: that slot and HWM change and nothing else. INJECT with DRAIN = 0 does
exactly this. -/
def Obligations.InjectBuffersBelowThreshold : Prop :=
  ∀ (s : State) (x y : Coord) (p : Polarity) (i : Nat), s.mode ≠ .full →
    i < s.slots.length → (slotAt s i).occ = false → (∀ j < i, (slotAt s j).occ = true) →
    let w := 2 ^ s.mode.code.toNat
    let slots := s.slots.set i { occ := true, x, y, p }
    let hwm := max s.hwm (i + 1)
    let t := { s with slots := slots, hwm := hwm }
    (contributors w { x, y, p } hwm slots fun _ => true).length < w * w / 2 →
    aggIn { x, y, p } s = t ∧ (s.drain = false → exec (.inject x y p) s = .next t)

/-- R143 to R146, R174: an event that enters the aggregator, whatever DRAIN, and brings its block to (w*w) div 2 events emits
the coarse event at the block's minimum corner with the majority polarity, a tie giving 0; exactly the contributing slots
are freed (X, Y and P stay), HWM falls to 1 + the highest slot still occupied, and the coarse event's packet is queued.
Nothing else changes. INJECT with DRAIN = 0 does exactly this. -/
def Obligations.InjectEmitsAtThreshold : Prop :=
  ∀ (s : State) (x y : Coord) (p : Polarity) (i : Nat), s.mode ≠ .full →
    i < s.slots.length → (slotAt s i).occ = false → (∀ j < i, (slotAt s j).occ = true) →
    let e : Event := { x, y, p }
    let w := 2 ^ s.mode.code.toNat
    let slots := s.slots.set i { occ := true, x, y, p }
    let hwm := max s.hwm (i + 1)
    let C := contributors w e hwm slots fun _ => true
    let pos := (contributors w e hwm slots fun c => c.p == 1).length
    let neg := (contributors w e hwm slots fun c => c.p == 0).length
    w * w / 2 ≤ C.length →
    ∃ slots' hwm' e2,
      let t := { s with
        slots := slots', hwm := hwm'
        pktq := (if s.pktq.length = s.prm.pktQCap then s.pktq.tail else s.pktq) ++
          [packetOf s.prm (payload s.prm s.mode e2)] }
      aggIn e s = t ∧ (s.drain = false → exec (.inject x y p) s = .next t) ∧
      slots'.length = slots.length ∧
      (∀ j, slots'.getD j Slot.free =
        if j ∈ C then { slots.getD j Slot.free with occ := false } else slots.getD j Slot.free) ∧
      hwm' ≤ hwm ∧ (∀ j, hwm' ≤ j → j < hwm → (slots'.getD j Slot.free).occ = false) ∧
      (hwm' = 0 ∨ (slots'.getD (hwm' - 1) Slot.free).occ = true) ∧
      e2.x.toNat = x.toNat - x.toNat % w ∧ e2.y.toNat = y.toNat - y.toNat % w ∧
      e2.p = (if neg < pos then 1 else 0)

/-- R144: the block of an event holds it, starts at a multiple of w, is w wide, and does not pass 127. -/
def Obligations.BlockAlignedAndInRange : Prop :=
  ∀ (m : Mode) (e : Event),
    let w := 2 ^ m.code.toNat
    let b := blockOf m e
    b.minX = e.x.toNat - e.x.toNat % w ∧ b.maxX = b.minX + w - 1 ∧
    b.minY = e.y.toNat - e.y.toNat % w ∧ b.maxY = b.minY + w - 1 ∧
    b.minX ≤ e.x.toNat ∧ e.x.toNat ≤ b.maxX ∧ b.maxX ≤ 127 ∧
    b.minY ≤ e.y.toNat ∧ e.y.toNat ≤ b.maxY ∧ b.maxY ≤ 127

/-- R27, R28, C2 of 90_conflicts.md: where the invariant of the slots holds, the tally over the slots below HWM is the tally
over all slots. -/
def Obligations.TallyBelowMarkCountsEverySlot : Prop :=
  ∀ (s : State) (b : Block), SlotsWf s →
    tally b s =
      { count := s.slots.countP (contributes b)
        pos := s.slots.countP fun c => contributes b c && c.p == 1
        neg := s.slots.countP fun c => contributes b c && c.p == 0 }

/-- R300: once every slot is occupied at a mode other than Full, no operation but SET_MODE changes a slot. -/
def Obligations.SaturationSticksUntilSetMode : Prop :=
  ∀ (s t : State) (i : Instr), s.mode ≠ .full → Saturated s → (∀ m, i ≠ .setMode m) →
    exec i s = .next t → t.slots = s.slots ∧ Saturated t

/-- R148 (3): the number of occupied slots grows by at most one in an operation. -/
def Obligations.OccupancyGrowsByAtMostOne : Prop :=
  ∀ (s t : State) (i : Instr), exec i s = .next t → occupied t ≤ occupied s + 1

/-- R24: only SET_MODE writes MODE. -/
def Obligations.ModeWrittenOnlyBySetMode : Prop :=
  ∀ (s t : State) (i : Instr), (∀ m, i ≠ .setMode m) → exec i s = .next t → t.mode = s.mode

/-! ### Encoder -/

/-- R172, R174: the order of the 11 symbols, and the packet of a payload is the one with that payload's own parity. -/
def Obligations.PacketLayoutInOrder : Prop :=
  ∀ (c : Params) (v : Payload) (par : BitVec 1),
    (packet c v par).toList =
      [if par = 1 then c.hdr[1] else c.hdr[0], dataSym c 0,
       dataSym c (v.extractLsb' 0 4), dataSym c (v.extractLsb' 4 4),
       dataSym c (v.extractLsb' 8 4), dataSym c (v.extractLsb' 12 4),
       c.addrSym[3], c.addrSym[2], c.addrSym[1], c.addrSym[0], eop c] ∧
    (∀ n : BitVec 4, c.sym.toList[n.toNat]? = some (dataSym c n)) ∧ c.sym.toList[16]? = some (eop c) ∧
    packetOf c v = packet c v (parity c v)

/-- R171: the four address source bytes, the two payload bytes and the parity bit together have an odd number of 1 bits. -/
def Obligations.ParityMakesOnesOdd : Prop :=
  ∀ (c : Params) (pl : Payload),
    (popcount c.addrSrc[0] + popcount c.addrSrc[1] + popcount c.addrSrc[2] + popcount c.addrSrc[3] +
      popcount (pl.extractLsb' 0 8) + popcount (pl.extractLsb' 8 8) + (parity c pl).toNat) % 2 = 1

/-- R84: bit 15 of a payload is 1, bit 14 is the polarity OR P_PACK's bit 14, bits 13:0 are P_PACK's. -/
def Obligations.PayloadBitsOfEvent : Prop :=
  ∀ (c : Params) (m : Mode) (e : Event),
    payload c m e = 0x8000#16 ||| (e.p.setWidth 16 <<< 14) ||| packBits c m e.x e.y ∧
    (payload c m e).getLsbD 15 = true ∧
    (payload c m e).getLsbD 14 = (e.p.getLsbD 0 || (packBits c m e.x e.y).getLsbD 14) ∧
    ∀ k < 14, (payload c m e).getLsbD k = (packBits c m e.x e.y).getLsbD k

/-- R4: P_PACK depends only on the mode, x[6:m] and y[6:m]. -/
def Obligations.PackReadsOnlyUpperBits : Prop :=
  ∀ (c : Params) (m : Mode) (x y x' y' : Coord),
    (∀ k, m.code.toNat ≤ k → x.getLsbD k = x'.getLsbD k) →
    (∀ k, m.code.toNat ≤ k → y.getLsbD k = y'.getLsbD k) →
    packBits c m x y = packBits c m x' y'

/-- R4 the other way, for the model's own representation (log 6): every function R4 admits is the packing of some table. -/
def Obligations.EveryPackingHasTable : Prop :=
  ∀ f : Mode → Coord → Coord → Payload,
    (∀ m x y x' y', (∀ k, m.code.toNat ≤ k → x.getLsbD k = x'.getLsbD k) →
      (∀ k, m.code.toNat ≤ k → y.getLsbD k = y'.getLsbD k) → f m x y = f m x' y') →
    ∃ table : List PackEntry, ∀ c : Params, c.pack = table → ∀ m x y, packBits c m x y = f m x y

/-! ### Transmitter -/

/-- R190: TX_FETCH takes the whole head packet of PKTQ. -/
def Obligations.TxFetchTakesHeadPacket : Prop :=
  ∀ (s : State) (pkt : Packet) (rest : List Packet), s.txHas = false → s.pktq = pkt :: rest →
    exec .txFetch s = .next { s with pktq := rest, txPkt := pkt, txIdx := 0, txHas := true }

/-- R191: TX_SEND takes the gate and sends the next symbol. On the bus the level changes by the symbol and the gate stays
taken; while path S forwards, the symbol's byte goes to the host, with P_TERM after every eleventh, the bus keeps its level
and the gate is released again. The index advances, and after the eleventh symbol the packet is done. -/
def Obligations.TxSendSendsNextSymbol : Prop :=
  ∀ (s : State), s.txHas = true → s.txGate = true →
    let sym := s.txPkt[s.txIdx]
    let level := s.txOut ^^^ sym
    let b : Byte := sym.setWidth 8
    (s.fwdS.active = false → exec .txSend s = .next { s with
      txGate := false, txOut := level, txTrace := s.txTrace ++ [level]
      txHas := decide (s.txIdx ≠ 10), txIdx := if s.txIdx = 10 then 0 else s.txIdx + 1 }) ∧
    (s.fwdS.active = true → exec .txSend s = .next { s with
      txGate := true
      hostOut := s.hostOut ++ (if s.txFcnt = 10 then [b, s.prm.term] else [b])
      txFcnt := if s.txFcnt = 10 then 0 else s.txFcnt + 1
      txHas := decide (s.txIdx ≠ 10), txIdx := if s.txIdx = 10 then 0 else s.txIdx + 1 })

/-- R193: ACK_LINE, class I. A change of level of the acknowledge line, in either direction, releases the gate; an
unchanged level does nothing. -/
def Obligations.AckLineEdgeReleasesGate : Prop :=
  ∀ (s : State) (v : Bool),
    encode (.ackLine v) = .word (0x70000000#32 ||| (BitVec.ofBool v).setWidth 32) ∧
    (Instr.ackLine v).opClass = .interrupt ∧
    (v ≠ s.ackIn → exec (.ackLine v) s = .next { s with ackIn := v, txGate := true }) ∧
    (v = s.ackIn → exec (.ackLine v) s = .next s)

/-- R194: DRAIN_TAKE takes the gate and ends the disable path's wait. -/
def Obligations.DrainTakeTakesGate : Prop :=
  ∀ (s : State), s.drain = true → s.txGate = true →
    exec .drainTake s = .next { s with txGate := false, drain := false, drainT := 0 }

/-- R192: while the gate is taken, only an acknowledge edge or a FWD_ENABLE of path S releases it. -/
def Obligations.TakenGateReleasedOnlyByAckOrEnable : Prop :=
  ∀ (s t : State) (i : Instr), s.txGate = false → exec i s = .next t → t.txGate = true →
    i = .ackLine (!s.ackIn) ∨ (s.drain = false ∧ ∃ n, i = .fwdEnable .S n)

/-- R195: `n` bus sends within a packet, each after an acknowledge edge, add to TX_TRACE the running XOR of the level before
them and the symbols sent. A receiver whose previous sample is that level recovers exactly the symbols; for one whose
previous sample is `r` the first differs by the XOR of the two levels and the rest are exact. -/
def Obligations.TransitionCodingRoundTrip : Prop :=
  ∀ (s : State) (n : Nat), s.txHas = true → s.fwdS.active = false → s.txIdx.val + n ≤ 11 →
    let syms := (s.txPkt.toList.drop s.txIdx.val).take n
    ∃ t, ackedSends n s = .next t ∧
      t.txTrace = s.txTrace ++ driveLevels s.txOut syms ∧
      t.txOut = (driveLevels s.txOut syms).getLastD s.txOut ∧
      recover s.txOut (driveLevels s.txOut syms) = syms ∧
      (∀ (r s1 : Symbol) (rest : List Symbol), syms = s1 :: rest →
        recover r (driveLevels s.txOut syms) = (s1 ^^^ s.txOut ^^^ r) :: rest) ∧
      t.txPkt = s.txPkt ∧ t.pktq = s.pktq ∧ t.hostOut = s.hostOut ∧
      t.txHas = decide (s.txIdx.val + n ≠ 11)

/-! ### Forwarding -/

/-- R220: FWD_ENABLE with DRAIN = 0: the flag is set, the timer armed with t, or disarmed when t = 0 (REM stays); path S
releases the gate and path L does not touch it. -/
def Obligations.FwdEnableSetsController : Prop :=
  ∀ (s : State) (t : BitVec 24), s.drain = false →
    let on (f : Fwd) : Fwd :=
      if t = 0 then { active := true, armed := false, rem := f.rem } else { active := true, armed := true, rem := t }
    exec (.fwdEnable .S t) s = .next { s with fwdS := on s.fwdS, txGate := true } ∧
    exec (.fwdEnable .L t) s = .next { s with fwdL := on s.fwdL }

/-- R221: FWD_DISABLE with DRAIN = 0: flag and timer are cleared, REM stays; path S takes the gate, or starts the bounded
wait of 100 TICKs when the gate is taken. -/
def Obligations.FwdDisableClearsController : Prop :=
  ∀ (s : State), s.drain = false →
    let off (f : Fwd) : Fwd := { active := false, armed := false, rem := f.rem }
    (s.txGate = true → exec (.fwdDisable .S) s = .next { s with fwdS := off s.fwdS, txGate := false }) ∧
    (s.txGate = false →
      exec (.fwdDisable .S) s = .next { s with fwdS := off s.fwdS, drain := true, drainT := 100 }) ∧
    exec (.fwdDisable .L) s = .next { s with fwdL := off s.fwdL }

/-- R223: TICK, class I, counts each armed timer and the drain's wait down by one; a timer or wait that comes to 0 ends, and
the gate is not touched. -/
def Obligations.TickCountsTimersDown : Prop :=
  ∀ (s : State),
    encode .tick = .word 0x60000000 ∧ Instr.tick.opClass = .interrupt ∧
    let tickOne (f : Fwd) : Fwd :=
      if f.armed then
        { active := f.active && decide (f.rem - 1 ≠ 0), armed := decide (f.rem - 1 ≠ 0), rem := f.rem - 1 }
      else f
    exec .tick s = .next { s with
      fwdS := tickOne s.fwdS, fwdL := tickOne s.fwdL
      drain := s.drain && decide (s.drainT - 1 ≠ 0)
      drainT := if s.drain then s.drainT - 1 else s.drainT }

/-- R225: after FWD_ENABLE k, t with t > 0 the flag is set for t - 1 TICKs and the t-th clears it; with t = 0 no number of
TICKs clears it; after FWD_DISABLE the flag and the timer are clear. -/
def Obligations.TimerExpiresOnLastTick : Prop :=
  ∀ (s : State) (k : Path) (t : BitVec 24), s.drain = false →
    (∀ n : Nat, ∃ u, runOps (.fwdEnable k t :: List.replicate n .tick) s = .next u ∧
      ((getFwd k u).active = true ↔ t = 0 ∨ n < t.toNat) ∧
      (t ≠ 0 → t.toNat ≤ n → (getFwd k u).armed = false)) ∧
    (∃ u, exec (.fwdDisable k) s = .next u ∧ (getFwd k u).active = false ∧ (getFwd k u).armed = false)

/-- R316: the disable path's wait ends on exactly the 100th TICK after the FWD_DISABLE that began it, the gate not taken. -/
def Obligations.DrainWaitEndsOnHundredthTick : Prop :=
  ∀ (s : State) (n : Nat), s.drain = false → s.txGate = false →
    ∃ u, runOps (.fwdDisable .S :: List.replicate n .tick) s = .next u ∧
      u.drain = decide (n < 100) ∧ u.drainT = 100 - n ∧ u.txGate = false

/-- R96: a class C operation while DRAIN = 1 is held: it is kept and nothing is applied. A class I operation is never
held. -/
def Obligations.CommandHeldWhileDraining : Prop :=
  ∀ (s : State) (i : Instr),
    (i.opClass = .command → s.drain = true → exec i s = .next { s with held := s.held ++ [i] }) ∧
    (i.opClass = .interrupt → ∀ t, exec i s = .next t → t.held = s.held)

/-! ### Receiver -/

/-- R240: RX_LINES, class I, counts one edge for each line that changed and sets the levels. -/
def Obligations.RxLinesCountsChangedLines : Prop :=
  ∀ (s : State) (v : Symbol),
    encode (.rxLines v) = .word (0x80000000#32 ||| v.setWidth 32) ∧ (Instr.rxLines v).opClass = .interrupt ∧
    exec (.rxLines v) s =
      .next { s with
        rxLines := v
        rxEdges := s.rxEdges + ((List.range 7).filter fun k => s.rxLines.getLsbD k != v.getLsbD k).length }

/-- R241: RX_STEP inside a frame: two edges are consumed, the XOR with the previous sample is appended, the acknowledge
toggles. Premise: the symbol is not EOP and does not fill the buffer. -/
def Obligations.RxStepRecoversSymbol : Prop :=
  ∀ (s : State), 2 ≤ s.rxEdges → s.rxLines ^^^ s.rxPrev ≠ eop s.prm → s.rxLen + 1 ≠ s.prm.rxCap →
    exec .rxStep s = .next { s with
      rxEdges := s.rxEdges - 2, rxPrev := s.rxLines, rxLen := s.rxLen + 1, rxAck := !s.rxAck
      rxBuf := s.rxBuf.set s.rxLen (s.rxLines ^^^ s.rxPrev) }

/-- R241, R242: RX_STEP that ends a frame, by EOP or by the last place of the buffer. The buffer is emptied; the frame is
discarded when it is full and P_RX_FULL_ACTION says so, when it is shorter than 6, or when a value position misses;
otherwise its value goes to the host (big-endian, then P_TERM) while path L forwards, and to LOCAL_OUT otherwise. -/
def Obligations.RxStepEndsFrame : Prop :=
  ∀ (s : State), 2 ≤ s.rxEdges →
    let sym := s.rxLines ^^^ s.rxPrev
    let buf := s.rxBuf.set s.rxLen sym
    let s1 := { s with
      rxEdges := s.rxEdges - 2, rxPrev := s.rxLines, rxLen := 0, rxAck := !s.rxAck, rxBuf := buf }
    let n (k : Nat) := lookup s.prm (buf.getD k 0)
    sym = eop s.prm ∨ s.rxLen + 1 = s.prm.rxCap →
    ((sym ≠ eop s.prm ∧ s.prm.rxFullAction = .discard) ∨ s.rxLen + 1 < 6 ∨
        n 2 = none ∨ n 3 = none ∨ n 4 = none ∨ n 5 = none →
      exec .rxStep s = .next s1) ∧
    (∀ n0 n1 n2 n3 : BitVec 4,
      (sym = eop s.prm ∨ s.prm.rxFullAction = .decode) → 6 ≤ s.rxLen + 1 →
      n 2 = some n0 → n 3 = some n1 → n 4 = some n2 → n 5 = some n3 →
      let v : Payload := n3 ++ n2 ++ n1 ++ n0
      (s.fwdL.active = true → exec .rxStep s =
        .next { s1 with hostOut := s.hostOut ++ [v.extractLsb' 8 8, v.extractLsb' 0 8, s.prm.term] }) ∧
      (s.fwdL.active = false → exec .rxStep s = .next { s1 with localOut := s.localOut ++ [v] }))

/-- R243: the lookup finds a nibble exactly for its data symbol; every value outside P_SYM[0..15] is a miss, EOP, 0x00 and
every value whose weight is not P_W among them, for every instantiation. -/
def Obligations.LookupInvertsSymbolTable : Prop :=
  ∀ (c : Cfg) (s : Symbol),
    (∀ n : BitVec 4, lookup c.params s = some n ↔ dataSym c.params n = s) ∧
    (lookup c.params s = none ↔ ∀ n : BitVec 4, dataSym c.params n ≠ s) ∧
    lookup c.params (eop c.params) = none ∧ lookup c.params 0 = none ∧
    (popcount s ≠ c.params.weight → lookup c.params s = none)

/-- R244, with what it leaves unsaid made explicit (log 14): the header and address symbols have at least two bits set, so
that each symbol makes the edges of one sample, the receive lines stand at TX_OUT, and path S is not forwarding. Header or
address symbols with fewer set bits, and lines that stand elsewhere, are left out. The packet of payload `pl`, driven
symbol by symbol after acknowledge edges and fed back, is received and delivered as `pl`. -/
def Obligations.LoopbackDeliversPayload : Prop :=
  ∀ (s : State) (pl : Payload),
    s.prm.weight = 2 → 11 ≤ s.prm.rxCap → s.rxBuf.length = s.prm.rxCap →
    (∀ k : Fin 2, s.prm.hdr[k] ≠ eop s.prm ∧ 2 ≤ popcount s.prm.hdr[k]) →
    (∀ k : Fin 4, s.prm.addrSym[k] ≠ eop s.prm ∧ 2 ≤ popcount s.prm.addrSym[k]) →
    s.txHas = true → s.txIdx = 0 → s.txPkt = packetOf s.prm pl → s.fwdS.active = false →
    s.rxPrev = s.txOut → s.rxLines = s.txOut → s.rxLen = 0 →
    ∃ t, loopback 11 s = .next t ∧ t.rxBuf.take 11 = (packetOf s.prm pl).toList ∧ t.rxLen = 0 ∧ t.txHas = false ∧
      t.rxPrev = t.txOut ∧
      (s.fwdL.active = false → t.localOut = s.localOut ++ [pl] ∧ t.hostOut = s.hostOut) ∧
      (s.fwdL.active = true →
        t.hostOut = s.hostOut ++ [pl.extractLsb' 8 8, pl.extractLsb' 0 8, s.prm.term] ∧ t.localOut = s.localOut)

/-! ### The whole machine -/

/-- R6: no step changes a parameter. -/
def Obligations.ParametersNeverChange : Prop :=
  ∀ s t : State, step s = .next t → t.cfg = s.cfg

/-- R28, R32, R35, R68, R90, R224: the invariant is kept by every step, from every state that meets it. -/
def Obligations.EveryStepKeepsInvariant : Prop :=
  ∀ s t : State, Inv s → step s = .next t → Inv t

/-- R282: a state is quiescent exactly when none of the five internal steps changes it, and a run has ended exactly when the
environment has no more words to give and the state is quiescent. From an ended run every number of steps only passes turns.
That a step that is not enabled is a step without effect, that the step goes on passing turns, and that a held word is still
to be given are the model's (log 9, log 2, log 16). -/
def Obligations.QuiescentExactlyWhenNoInternalStepActs : Prop :=
  ∀ s : State,
    (quiescent s = true ↔ ∀ i : Instr, i.opClass = .internal → exec i s = .next s) ∧
    (runEnded s = true ↔ s.cmdIn = [] ∧ s.held = [] ∧ quiescent s = true) ∧
    (runEnded s = true → ∀ k : Nat,
      Sys2Proof.core.run k s = .next { s with turns := s.turns.drop k, turnNo := s.turnNo + k })

/-- R10, R96: a held command is neither lost nor applied twice. A step adds at most one held command, and only while
DRAIN = 1, or it runs one with DRAIN = 0 and takes exactly that one off. The list is the model's (log 3). -/
def Obligations.HeldCommandsAreNeverLost : Prop :=
  ∀ s t : State, step s = .next t →
    (∃ new : List Instr, t.held = s.held ++ new ∧ new.length ≤ 1 ∧ (new ≠ [] → s.drain = true)) ∨
    (s.drain = false ∧ ∃ (n : Nat) (i : Instr), s.held[n]? = some i ∧ t.held = s.held.eraseIdx n ∧
      exec i { s with turns := s.turns.tail, turnNo := s.turnNo + 1, held := s.held.eraseIdx n } = .next t)

/-- R42, R43, R44, R91: every step only appends to the three output streams, and appends nothing, or one forwarded symbol
with or without the terminator, or one forwarded value with the terminator, or one value to LOCAL_OUT, or one level to
TX_TRACE. -/
def Obligations.OutputStreamsOnlyGrow : Prop :=
  ∀ s t : State, step s = .next t →
    ∃ (h : List Byte) (l : List Payload) (b : List Symbol),
      t.hostOut = s.hostOut ++ h ∧ t.localOut = s.localOut ++ l ∧ t.txTrace = s.txTrace ++ b ∧
      ((h = [] ∧ l = [] ∧ b = []) ∨
       (l = [] ∧ b = [] ∧ ∃ sym : Symbol, h = [sym.setWidth 8] ∨ h = [sym.setWidth 8, s.prm.term]) ∨
       (l = [] ∧ b = [] ∧ ∃ v : Payload, h = [v.extractLsb' 8 8, v.extractLsb' 0 8, s.prm.term]) ∨
       (h = [] ∧ b = [] ∧ ∃ v : Payload, l = [v]) ∨
       (h = [] ∧ l = [] ∧ ∃ level : Symbol, b = [level]))

/-- R71: the queues are FIFO. An operation takes at most one entry from the head and adds at most one at the tail; bytes enter
only by BYTE_IN and leave only by DEC_STEP; a packet leaves only by TX_FETCH, or evicted from a full PKTQ by the packet that
is added in the same step. -/
def Obligations.QueuesAreFirstInFirstOut : Prop :=
  ∀ (s t : State) (i : Instr), exec i s = .next t →
    (∃ (k : Nat) (new : List Byte), t.bq = s.bq.drop k ++ new ∧ k ≤ 1 ∧ new.length ≤ 1 ∧
      (k = 1 → i = .decStep) ∧ (∀ b ∈ new, i = .byteIn b)) ∧
    (∃ (k : Nat) (new : List Packet), t.pktq = s.pktq.drop k ++ new ∧ k ≤ 1 ∧ new.length ≤ 1 ∧
      (k = 1 → i = .txFetch ∨ (s.pktq.length = s.prm.pktQCap ∧ new ≠ [])))

/-- R9: no step reads an output stream: two states that differ only in what the streams hold step to states that differ
only there, and the same values are appended. -/
def Obligations.NoStepReadsOutputStreams : Prop :=
  ∀ s1 s2 : State, withoutOutputs s1 = withoutOutputs s2 →
    ∃ t1 t2, step s1 = .next t1 ∧ step s2 = .next t2 ∧ withoutOutputs t1 = withoutOutputs t2 ∧
      ∃ (h : List Byte) (l : List Payload) (b : List Symbol),
        t1.hostOut = s1.hostOut ++ h ∧ t2.hostOut = s2.hostOut ++ h ∧
        t1.localOut = s1.localOut ++ l ∧ t2.localOut = s2.localOut ++ l ∧
        t1.txTrace = s1.txTrace ++ b ∧ t2.txTrace = s2.txTrace ++ b

/-- R23, R32, R33, R34, R37, R39, R41: the registers the spec gives one writer change in no other operation (the frame
bytes are DEC_STEP's own). -/
def Obligations.RegistersChangeOnlyByTheirWriter : Prop :=
  ∀ (s t : State) (i : Instr), exec i s = .next t →
    (i ≠ .txSend → t.txOut = s.txOut ∧ t.txFcnt = s.txFcnt ∧ t.txTrace = s.txTrace) ∧
    ((∀ v, i ≠ .ackLine v) → t.ackIn = s.ackIn) ∧
    ((∀ v, i ≠ .rxLines v) → t.rxLines = s.rxLines) ∧
    (i ≠ .rxStep → t.rxPrev = s.rxPrev ∧ t.rxBuf = s.rxBuf ∧ t.rxLen = s.rxLen ∧ t.rxAck = s.rxAck ∧
      t.localOut = s.localOut) ∧
    (i ≠ .decStep → i.opClass ≠ .frameByte → t.dw0 = s.dw0 ∧ t.dwl = s.dwl) ∧
    (i ≠ .txFetch → t.txPkt = s.txPkt) ∧
    (t.refusals = s.refusals ∧ t.cmdIn = s.cmdIn ∧ t.turns = s.turns ∧ t.turnNo = s.turnNo ∧ t.cfg = s.cfg)
end

