-- ==== Sys2Proof/Laws/State.lean ====
section
/-! SUPPORT. The small lemmas of the state's updates: for each update and each field, what the field holds after it. -/

namespace Sys2Proof.Machine

variable (s : State)

/-! ### The decided parameters -/

@[simp] theorem config_nSym : Config.nSym = 17 := rfl
@[simp] theorem config_pktLen : Config.pktLen = 11 := rfl
@[simp] theorem config_aggCap : Config.aggCap = 500 := rfl
@[simp] theorem config_rxEdgesPerSample : Config.rxEdgesPerSample = 2 := rfl
@[simp] theorem config_drainTimeout : Config.drainTimeout = 100 := rfl

/-! ### `releaseGate` -/

@[simp] theorem releaseGate_cfg : (releaseGate s).cfg = s.cfg := rfl
@[simp] theorem releaseGate_bq : (releaseGate s).bq = s.bq := rfl
@[simp] theorem releaseGate_dw0 : (releaseGate s).dw0 = s.dw0 := rfl
@[simp] theorem releaseGate_dwl : (releaseGate s).dwl = s.dwl := rfl
@[simp] theorem releaseGate_mode : (releaseGate s).mode = s.mode := rfl
@[simp] theorem releaseGate_slots : (releaseGate s).slots = s.slots := rfl
@[simp] theorem releaseGate_hwm : (releaseGate s).hwm = s.hwm := rfl
@[simp] theorem releaseGate_pktq : (releaseGate s).pktq = s.pktq := rfl
@[simp] theorem releaseGate_txHas : (releaseGate s).txHas = s.txHas := rfl
@[simp] theorem releaseGate_txPkt : (releaseGate s).txPkt = s.txPkt := rfl
@[simp] theorem releaseGate_txIdx : (releaseGate s).txIdx = s.txIdx := rfl
@[simp] theorem releaseGate_txGate : (releaseGate s).txGate = true := rfl
@[simp] theorem releaseGate_txOut : (releaseGate s).txOut = s.txOut := rfl
@[simp] theorem releaseGate_txFcnt : (releaseGate s).txFcnt = s.txFcnt := rfl
@[simp] theorem releaseGate_ackIn : (releaseGate s).ackIn = s.ackIn := rfl
@[simp] theorem releaseGate_drain : (releaseGate s).drain = s.drain := rfl
@[simp] theorem releaseGate_drainT : (releaseGate s).drainT = s.drainT := rfl
@[simp] theorem releaseGate_fwdS : (releaseGate s).fwdS = s.fwdS := rfl
@[simp] theorem releaseGate_fwdL : (releaseGate s).fwdL = s.fwdL := rfl
@[simp] theorem releaseGate_rxLines : (releaseGate s).rxLines = s.rxLines := rfl
@[simp] theorem releaseGate_rxEdges : (releaseGate s).rxEdges = s.rxEdges := rfl
@[simp] theorem releaseGate_rxPrev : (releaseGate s).rxPrev = s.rxPrev := rfl
@[simp] theorem releaseGate_rxBuf : (releaseGate s).rxBuf = s.rxBuf := rfl
@[simp] theorem releaseGate_rxLen : (releaseGate s).rxLen = s.rxLen := rfl
@[simp] theorem releaseGate_rxAck : (releaseGate s).rxAck = s.rxAck := rfl
@[simp] theorem releaseGate_hostOut : (releaseGate s).hostOut = s.hostOut := rfl
@[simp] theorem releaseGate_localOut : (releaseGate s).localOut = s.localOut := rfl
@[simp] theorem releaseGate_txTrace : (releaseGate s).txTrace = s.txTrace := rfl
@[simp] theorem releaseGate_held : (releaseGate s).held = s.held := rfl
@[simp] theorem releaseGate_refusals : (releaseGate s).refusals = s.refusals := rfl
@[simp] theorem releaseGate_cmdIn : (releaseGate s).cmdIn = s.cmdIn := rfl
@[simp] theorem releaseGate_turns : (releaseGate s).turns = s.turns := rfl
@[simp] theorem releaseGate_turnNo : (releaseGate s).turnNo = s.turnNo := rfl

/-! ### `takeGate` -/

@[simp] theorem takeGate_cfg : (takeGate s).cfg = s.cfg := rfl
@[simp] theorem takeGate_bq : (takeGate s).bq = s.bq := rfl
@[simp] theorem takeGate_dw0 : (takeGate s).dw0 = s.dw0 := rfl
@[simp] theorem takeGate_dwl : (takeGate s).dwl = s.dwl := rfl
@[simp] theorem takeGate_mode : (takeGate s).mode = s.mode := rfl
@[simp] theorem takeGate_slots : (takeGate s).slots = s.slots := rfl
@[simp] theorem takeGate_hwm : (takeGate s).hwm = s.hwm := rfl
@[simp] theorem takeGate_pktq : (takeGate s).pktq = s.pktq := rfl
@[simp] theorem takeGate_txHas : (takeGate s).txHas = s.txHas := rfl
@[simp] theorem takeGate_txPkt : (takeGate s).txPkt = s.txPkt := rfl
@[simp] theorem takeGate_txIdx : (takeGate s).txIdx = s.txIdx := rfl
@[simp] theorem takeGate_txGate : (takeGate s).txGate = false := rfl
@[simp] theorem takeGate_txOut : (takeGate s).txOut = s.txOut := rfl
@[simp] theorem takeGate_txFcnt : (takeGate s).txFcnt = s.txFcnt := rfl
@[simp] theorem takeGate_ackIn : (takeGate s).ackIn = s.ackIn := rfl
@[simp] theorem takeGate_drain : (takeGate s).drain = s.drain := rfl
@[simp] theorem takeGate_drainT : (takeGate s).drainT = s.drainT := rfl
@[simp] theorem takeGate_fwdS : (takeGate s).fwdS = s.fwdS := rfl
@[simp] theorem takeGate_fwdL : (takeGate s).fwdL = s.fwdL := rfl
@[simp] theorem takeGate_rxLines : (takeGate s).rxLines = s.rxLines := rfl
@[simp] theorem takeGate_rxEdges : (takeGate s).rxEdges = s.rxEdges := rfl
@[simp] theorem takeGate_rxPrev : (takeGate s).rxPrev = s.rxPrev := rfl
@[simp] theorem takeGate_rxBuf : (takeGate s).rxBuf = s.rxBuf := rfl
@[simp] theorem takeGate_rxLen : (takeGate s).rxLen = s.rxLen := rfl
@[simp] theorem takeGate_rxAck : (takeGate s).rxAck = s.rxAck := rfl
@[simp] theorem takeGate_hostOut : (takeGate s).hostOut = s.hostOut := rfl
@[simp] theorem takeGate_localOut : (takeGate s).localOut = s.localOut := rfl
@[simp] theorem takeGate_txTrace : (takeGate s).txTrace = s.txTrace := rfl
@[simp] theorem takeGate_held : (takeGate s).held = s.held := rfl
@[simp] theorem takeGate_refusals : (takeGate s).refusals = s.refusals := rfl
@[simp] theorem takeGate_cmdIn : (takeGate s).cmdIn = s.cmdIn := rfl
@[simp] theorem takeGate_turns : (takeGate s).turns = s.turns := rfl
@[simp] theorem takeGate_turnNo : (takeGate s).turnNo = s.turnNo := rfl

/-! ### `emitHost` -/

@[simp] theorem emitHost_cfg (bs : List Byte) : (emitHost bs s).cfg = s.cfg := rfl
@[simp] theorem emitHost_bq (bs : List Byte) : (emitHost bs s).bq = s.bq := rfl
@[simp] theorem emitHost_dw0 (bs : List Byte) : (emitHost bs s).dw0 = s.dw0 := rfl
@[simp] theorem emitHost_dwl (bs : List Byte) : (emitHost bs s).dwl = s.dwl := rfl
@[simp] theorem emitHost_mode (bs : List Byte) : (emitHost bs s).mode = s.mode := rfl
@[simp] theorem emitHost_slots (bs : List Byte) : (emitHost bs s).slots = s.slots := rfl
@[simp] theorem emitHost_hwm (bs : List Byte) : (emitHost bs s).hwm = s.hwm := rfl
@[simp] theorem emitHost_pktq (bs : List Byte) : (emitHost bs s).pktq = s.pktq := rfl
@[simp] theorem emitHost_txHas (bs : List Byte) : (emitHost bs s).txHas = s.txHas := rfl
@[simp] theorem emitHost_txPkt (bs : List Byte) : (emitHost bs s).txPkt = s.txPkt := rfl
@[simp] theorem emitHost_txIdx (bs : List Byte) : (emitHost bs s).txIdx = s.txIdx := rfl
@[simp] theorem emitHost_txGate (bs : List Byte) : (emitHost bs s).txGate = s.txGate := rfl
@[simp] theorem emitHost_txOut (bs : List Byte) : (emitHost bs s).txOut = s.txOut := rfl
@[simp] theorem emitHost_txFcnt (bs : List Byte) : (emitHost bs s).txFcnt = s.txFcnt := rfl
@[simp] theorem emitHost_ackIn (bs : List Byte) : (emitHost bs s).ackIn = s.ackIn := rfl
@[simp] theorem emitHost_drain (bs : List Byte) : (emitHost bs s).drain = s.drain := rfl
@[simp] theorem emitHost_drainT (bs : List Byte) : (emitHost bs s).drainT = s.drainT := rfl
@[simp] theorem emitHost_fwdS (bs : List Byte) : (emitHost bs s).fwdS = s.fwdS := rfl
@[simp] theorem emitHost_fwdL (bs : List Byte) : (emitHost bs s).fwdL = s.fwdL := rfl
@[simp] theorem emitHost_rxLines (bs : List Byte) : (emitHost bs s).rxLines = s.rxLines := rfl
@[simp] theorem emitHost_rxEdges (bs : List Byte) : (emitHost bs s).rxEdges = s.rxEdges := rfl
@[simp] theorem emitHost_rxPrev (bs : List Byte) : (emitHost bs s).rxPrev = s.rxPrev := rfl
@[simp] theorem emitHost_rxBuf (bs : List Byte) : (emitHost bs s).rxBuf = s.rxBuf := rfl
@[simp] theorem emitHost_rxLen (bs : List Byte) : (emitHost bs s).rxLen = s.rxLen := rfl
@[simp] theorem emitHost_rxAck (bs : List Byte) : (emitHost bs s).rxAck = s.rxAck := rfl
@[simp] theorem emitHost_hostOut (bs : List Byte) : (emitHost bs s).hostOut = s.hostOut ++ bs := rfl
@[simp] theorem emitHost_localOut (bs : List Byte) : (emitHost bs s).localOut = s.localOut := rfl
@[simp] theorem emitHost_txTrace (bs : List Byte) : (emitHost bs s).txTrace = s.txTrace := rfl
@[simp] theorem emitHost_held (bs : List Byte) : (emitHost bs s).held = s.held := rfl
@[simp] theorem emitHost_refusals (bs : List Byte) : (emitHost bs s).refusals = s.refusals := rfl
@[simp] theorem emitHost_cmdIn (bs : List Byte) : (emitHost bs s).cmdIn = s.cmdIn := rfl
@[simp] theorem emitHost_turns (bs : List Byte) : (emitHost bs s).turns = s.turns := rfl
@[simp] theorem emitHost_turnNo (bs : List Byte) : (emitHost bs s).turnNo = s.turnNo := rfl

/-! ### `emitLocal` -/

@[simp] theorem emitLocal_cfg (v : Payload) : (emitLocal v s).cfg = s.cfg := rfl
@[simp] theorem emitLocal_bq (v : Payload) : (emitLocal v s).bq = s.bq := rfl
@[simp] theorem emitLocal_dw0 (v : Payload) : (emitLocal v s).dw0 = s.dw0 := rfl
@[simp] theorem emitLocal_dwl (v : Payload) : (emitLocal v s).dwl = s.dwl := rfl
@[simp] theorem emitLocal_mode (v : Payload) : (emitLocal v s).mode = s.mode := rfl
@[simp] theorem emitLocal_slots (v : Payload) : (emitLocal v s).slots = s.slots := rfl
@[simp] theorem emitLocal_hwm (v : Payload) : (emitLocal v s).hwm = s.hwm := rfl
@[simp] theorem emitLocal_pktq (v : Payload) : (emitLocal v s).pktq = s.pktq := rfl
@[simp] theorem emitLocal_txHas (v : Payload) : (emitLocal v s).txHas = s.txHas := rfl
@[simp] theorem emitLocal_txPkt (v : Payload) : (emitLocal v s).txPkt = s.txPkt := rfl
@[simp] theorem emitLocal_txIdx (v : Payload) : (emitLocal v s).txIdx = s.txIdx := rfl
@[simp] theorem emitLocal_txGate (v : Payload) : (emitLocal v s).txGate = s.txGate := rfl
@[simp] theorem emitLocal_txOut (v : Payload) : (emitLocal v s).txOut = s.txOut := rfl
@[simp] theorem emitLocal_txFcnt (v : Payload) : (emitLocal v s).txFcnt = s.txFcnt := rfl
@[simp] theorem emitLocal_ackIn (v : Payload) : (emitLocal v s).ackIn = s.ackIn := rfl
@[simp] theorem emitLocal_drain (v : Payload) : (emitLocal v s).drain = s.drain := rfl
@[simp] theorem emitLocal_drainT (v : Payload) : (emitLocal v s).drainT = s.drainT := rfl
@[simp] theorem emitLocal_fwdS (v : Payload) : (emitLocal v s).fwdS = s.fwdS := rfl
@[simp] theorem emitLocal_fwdL (v : Payload) : (emitLocal v s).fwdL = s.fwdL := rfl
@[simp] theorem emitLocal_rxLines (v : Payload) : (emitLocal v s).rxLines = s.rxLines := rfl
@[simp] theorem emitLocal_rxEdges (v : Payload) : (emitLocal v s).rxEdges = s.rxEdges := rfl
@[simp] theorem emitLocal_rxPrev (v : Payload) : (emitLocal v s).rxPrev = s.rxPrev := rfl
@[simp] theorem emitLocal_rxBuf (v : Payload) : (emitLocal v s).rxBuf = s.rxBuf := rfl
@[simp] theorem emitLocal_rxLen (v : Payload) : (emitLocal v s).rxLen = s.rxLen := rfl
@[simp] theorem emitLocal_rxAck (v : Payload) : (emitLocal v s).rxAck = s.rxAck := rfl
@[simp] theorem emitLocal_hostOut (v : Payload) : (emitLocal v s).hostOut = s.hostOut := rfl
@[simp] theorem emitLocal_localOut (v : Payload) : (emitLocal v s).localOut = s.localOut ++ [v] := rfl
@[simp] theorem emitLocal_txTrace (v : Payload) : (emitLocal v s).txTrace = s.txTrace := rfl
@[simp] theorem emitLocal_held (v : Payload) : (emitLocal v s).held = s.held := rfl
@[simp] theorem emitLocal_refusals (v : Payload) : (emitLocal v s).refusals = s.refusals := rfl
@[simp] theorem emitLocal_cmdIn (v : Payload) : (emitLocal v s).cmdIn = s.cmdIn := rfl
@[simp] theorem emitLocal_turns (v : Payload) : (emitLocal v s).turns = s.turns := rfl
@[simp] theorem emitLocal_turnNo (v : Payload) : (emitLocal v s).turnNo = s.turnNo := rfl

/-! ### `holdCommand` -/

@[simp] theorem holdCommand_cfg (i : Instr) : (holdCommand i s).cfg = s.cfg := rfl
@[simp] theorem holdCommand_bq (i : Instr) : (holdCommand i s).bq = s.bq := rfl
@[simp] theorem holdCommand_dw0 (i : Instr) : (holdCommand i s).dw0 = s.dw0 := rfl
@[simp] theorem holdCommand_dwl (i : Instr) : (holdCommand i s).dwl = s.dwl := rfl
@[simp] theorem holdCommand_mode (i : Instr) : (holdCommand i s).mode = s.mode := rfl
@[simp] theorem holdCommand_slots (i : Instr) : (holdCommand i s).slots = s.slots := rfl
@[simp] theorem holdCommand_hwm (i : Instr) : (holdCommand i s).hwm = s.hwm := rfl
@[simp] theorem holdCommand_pktq (i : Instr) : (holdCommand i s).pktq = s.pktq := rfl
@[simp] theorem holdCommand_txHas (i : Instr) : (holdCommand i s).txHas = s.txHas := rfl
@[simp] theorem holdCommand_txPkt (i : Instr) : (holdCommand i s).txPkt = s.txPkt := rfl
@[simp] theorem holdCommand_txIdx (i : Instr) : (holdCommand i s).txIdx = s.txIdx := rfl
@[simp] theorem holdCommand_txGate (i : Instr) : (holdCommand i s).txGate = s.txGate := rfl
@[simp] theorem holdCommand_txOut (i : Instr) : (holdCommand i s).txOut = s.txOut := rfl
@[simp] theorem holdCommand_txFcnt (i : Instr) : (holdCommand i s).txFcnt = s.txFcnt := rfl
@[simp] theorem holdCommand_ackIn (i : Instr) : (holdCommand i s).ackIn = s.ackIn := rfl
@[simp] theorem holdCommand_drain (i : Instr) : (holdCommand i s).drain = s.drain := rfl
@[simp] theorem holdCommand_drainT (i : Instr) : (holdCommand i s).drainT = s.drainT := rfl
@[simp] theorem holdCommand_fwdS (i : Instr) : (holdCommand i s).fwdS = s.fwdS := rfl
@[simp] theorem holdCommand_fwdL (i : Instr) : (holdCommand i s).fwdL = s.fwdL := rfl
@[simp] theorem holdCommand_rxLines (i : Instr) : (holdCommand i s).rxLines = s.rxLines := rfl
@[simp] theorem holdCommand_rxEdges (i : Instr) : (holdCommand i s).rxEdges = s.rxEdges := rfl
@[simp] theorem holdCommand_rxPrev (i : Instr) : (holdCommand i s).rxPrev = s.rxPrev := rfl
@[simp] theorem holdCommand_rxBuf (i : Instr) : (holdCommand i s).rxBuf = s.rxBuf := rfl
@[simp] theorem holdCommand_rxLen (i : Instr) : (holdCommand i s).rxLen = s.rxLen := rfl
@[simp] theorem holdCommand_rxAck (i : Instr) : (holdCommand i s).rxAck = s.rxAck := rfl
@[simp] theorem holdCommand_hostOut (i : Instr) : (holdCommand i s).hostOut = s.hostOut := rfl
@[simp] theorem holdCommand_localOut (i : Instr) : (holdCommand i s).localOut = s.localOut := rfl
@[simp] theorem holdCommand_txTrace (i : Instr) : (holdCommand i s).txTrace = s.txTrace := rfl
@[simp] theorem holdCommand_held (i : Instr) : (holdCommand i s).held = s.held ++ [i] := rfl
@[simp] theorem holdCommand_refusals (i : Instr) : (holdCommand i s).refusals = s.refusals := rfl
@[simp] theorem holdCommand_cmdIn (i : Instr) : (holdCommand i s).cmdIn = s.cmdIn := rfl
@[simp] theorem holdCommand_turns (i : Instr) : (holdCommand i s).turns = s.turns := rfl
@[simp] theorem holdCommand_turnNo (i : Instr) : (holdCommand i s).turnNo = s.turnNo := rfl

/-! ### `markRefused` -/

@[simp] theorem markRefused_cfg (w : Word) : (markRefused w s).cfg = s.cfg := rfl
@[simp] theorem markRefused_bq (w : Word) : (markRefused w s).bq = s.bq := rfl
@[simp] theorem markRefused_dw0 (w : Word) : (markRefused w s).dw0 = s.dw0 := rfl
@[simp] theorem markRefused_dwl (w : Word) : (markRefused w s).dwl = s.dwl := rfl
@[simp] theorem markRefused_mode (w : Word) : (markRefused w s).mode = s.mode := rfl
@[simp] theorem markRefused_slots (w : Word) : (markRefused w s).slots = s.slots := rfl
@[simp] theorem markRefused_hwm (w : Word) : (markRefused w s).hwm = s.hwm := rfl
@[simp] theorem markRefused_pktq (w : Word) : (markRefused w s).pktq = s.pktq := rfl
@[simp] theorem markRefused_txHas (w : Word) : (markRefused w s).txHas = s.txHas := rfl
@[simp] theorem markRefused_txPkt (w : Word) : (markRefused w s).txPkt = s.txPkt := rfl
@[simp] theorem markRefused_txIdx (w : Word) : (markRefused w s).txIdx = s.txIdx := rfl
@[simp] theorem markRefused_txGate (w : Word) : (markRefused w s).txGate = s.txGate := rfl
@[simp] theorem markRefused_txOut (w : Word) : (markRefused w s).txOut = s.txOut := rfl
@[simp] theorem markRefused_txFcnt (w : Word) : (markRefused w s).txFcnt = s.txFcnt := rfl
@[simp] theorem markRefused_ackIn (w : Word) : (markRefused w s).ackIn = s.ackIn := rfl
@[simp] theorem markRefused_drain (w : Word) : (markRefused w s).drain = s.drain := rfl
@[simp] theorem markRefused_drainT (w : Word) : (markRefused w s).drainT = s.drainT := rfl
@[simp] theorem markRefused_fwdS (w : Word) : (markRefused w s).fwdS = s.fwdS := rfl
@[simp] theorem markRefused_fwdL (w : Word) : (markRefused w s).fwdL = s.fwdL := rfl
@[simp] theorem markRefused_rxLines (w : Word) : (markRefused w s).rxLines = s.rxLines := rfl
@[simp] theorem markRefused_rxEdges (w : Word) : (markRefused w s).rxEdges = s.rxEdges := rfl
@[simp] theorem markRefused_rxPrev (w : Word) : (markRefused w s).rxPrev = s.rxPrev := rfl
@[simp] theorem markRefused_rxBuf (w : Word) : (markRefused w s).rxBuf = s.rxBuf := rfl
@[simp] theorem markRefused_rxLen (w : Word) : (markRefused w s).rxLen = s.rxLen := rfl
@[simp] theorem markRefused_rxAck (w : Word) : (markRefused w s).rxAck = s.rxAck := rfl
@[simp] theorem markRefused_hostOut (w : Word) : (markRefused w s).hostOut = s.hostOut := rfl
@[simp] theorem markRefused_localOut (w : Word) : (markRefused w s).localOut = s.localOut := rfl
@[simp] theorem markRefused_txTrace (w : Word) : (markRefused w s).txTrace = s.txTrace := rfl
@[simp] theorem markRefused_held (w : Word) : (markRefused w s).held = s.held := rfl
@[simp] theorem markRefused_refusals (w : Word) : (markRefused w s).refusals = s.refusals ++ [w] := rfl
@[simp] theorem markRefused_cmdIn (w : Word) : (markRefused w s).cmdIn = s.cmdIn := rfl
@[simp] theorem markRefused_turns (w : Word) : (markRefused w s).turns = s.turns := rfl
@[simp] theorem markRefused_turnNo (w : Word) : (markRefused w s).turnNo = s.turnNo := rfl

/-! ### `enqueue` -/

@[simp] theorem enqueue_cfg (pkt : Packet) : (enqueue pkt s).cfg = s.cfg := rfl
@[simp] theorem enqueue_bq (pkt : Packet) : (enqueue pkt s).bq = s.bq := rfl
@[simp] theorem enqueue_dw0 (pkt : Packet) : (enqueue pkt s).dw0 = s.dw0 := rfl
@[simp] theorem enqueue_dwl (pkt : Packet) : (enqueue pkt s).dwl = s.dwl := rfl
@[simp] theorem enqueue_mode (pkt : Packet) : (enqueue pkt s).mode = s.mode := rfl
@[simp] theorem enqueue_slots (pkt : Packet) : (enqueue pkt s).slots = s.slots := rfl
@[simp] theorem enqueue_hwm (pkt : Packet) : (enqueue pkt s).hwm = s.hwm := rfl
@[simp] theorem enqueue_pktq (pkt : Packet) : (enqueue pkt s).pktq = (if s.pktq.length = s.prm.pktQCap then s.pktq.tail else s.pktq) ++ [pkt] := rfl
@[simp] theorem enqueue_txHas (pkt : Packet) : (enqueue pkt s).txHas = s.txHas := rfl
@[simp] theorem enqueue_txPkt (pkt : Packet) : (enqueue pkt s).txPkt = s.txPkt := rfl
@[simp] theorem enqueue_txIdx (pkt : Packet) : (enqueue pkt s).txIdx = s.txIdx := rfl
@[simp] theorem enqueue_txGate (pkt : Packet) : (enqueue pkt s).txGate = s.txGate := rfl
@[simp] theorem enqueue_txOut (pkt : Packet) : (enqueue pkt s).txOut = s.txOut := rfl
@[simp] theorem enqueue_txFcnt (pkt : Packet) : (enqueue pkt s).txFcnt = s.txFcnt := rfl
@[simp] theorem enqueue_ackIn (pkt : Packet) : (enqueue pkt s).ackIn = s.ackIn := rfl
@[simp] theorem enqueue_drain (pkt : Packet) : (enqueue pkt s).drain = s.drain := rfl
@[simp] theorem enqueue_drainT (pkt : Packet) : (enqueue pkt s).drainT = s.drainT := rfl
@[simp] theorem enqueue_fwdS (pkt : Packet) : (enqueue pkt s).fwdS = s.fwdS := rfl
@[simp] theorem enqueue_fwdL (pkt : Packet) : (enqueue pkt s).fwdL = s.fwdL := rfl
@[simp] theorem enqueue_rxLines (pkt : Packet) : (enqueue pkt s).rxLines = s.rxLines := rfl
@[simp] theorem enqueue_rxEdges (pkt : Packet) : (enqueue pkt s).rxEdges = s.rxEdges := rfl
@[simp] theorem enqueue_rxPrev (pkt : Packet) : (enqueue pkt s).rxPrev = s.rxPrev := rfl
@[simp] theorem enqueue_rxBuf (pkt : Packet) : (enqueue pkt s).rxBuf = s.rxBuf := rfl
@[simp] theorem enqueue_rxLen (pkt : Packet) : (enqueue pkt s).rxLen = s.rxLen := rfl
@[simp] theorem enqueue_rxAck (pkt : Packet) : (enqueue pkt s).rxAck = s.rxAck := rfl
@[simp] theorem enqueue_hostOut (pkt : Packet) : (enqueue pkt s).hostOut = s.hostOut := rfl
@[simp] theorem enqueue_localOut (pkt : Packet) : (enqueue pkt s).localOut = s.localOut := rfl
@[simp] theorem enqueue_txTrace (pkt : Packet) : (enqueue pkt s).txTrace = s.txTrace := rfl
@[simp] theorem enqueue_held (pkt : Packet) : (enqueue pkt s).held = s.held := rfl
@[simp] theorem enqueue_refusals (pkt : Packet) : (enqueue pkt s).refusals = s.refusals := rfl
@[simp] theorem enqueue_cmdIn (pkt : Packet) : (enqueue pkt s).cmdIn = s.cmdIn := rfl
@[simp] theorem enqueue_turns (pkt : Packet) : (enqueue pkt s).turns = s.turns := rfl
@[simp] theorem enqueue_turnNo (pkt : Packet) : (enqueue pkt s).turnNo = s.turnNo := rfl

/-! ### `enc` -/

@[simp] theorem enc_cfg (e : Event) : (enc e s).cfg = s.cfg := rfl
@[simp] theorem enc_bq (e : Event) : (enc e s).bq = s.bq := rfl
@[simp] theorem enc_dw0 (e : Event) : (enc e s).dw0 = s.dw0 := rfl
@[simp] theorem enc_dwl (e : Event) : (enc e s).dwl = s.dwl := rfl
@[simp] theorem enc_mode (e : Event) : (enc e s).mode = s.mode := rfl
@[simp] theorem enc_slots (e : Event) : (enc e s).slots = s.slots := rfl
@[simp] theorem enc_hwm (e : Event) : (enc e s).hwm = s.hwm := rfl
@[simp] theorem enc_pktq (e : Event) : (enc e s).pktq = (if s.pktq.length = s.prm.pktQCap then s.pktq.tail else s.pktq) ++ [packetOf s.prm (payload s.prm s.mode e)] := rfl
@[simp] theorem enc_txHas (e : Event) : (enc e s).txHas = s.txHas := rfl
@[simp] theorem enc_txPkt (e : Event) : (enc e s).txPkt = s.txPkt := rfl
@[simp] theorem enc_txIdx (e : Event) : (enc e s).txIdx = s.txIdx := rfl
@[simp] theorem enc_txGate (e : Event) : (enc e s).txGate = s.txGate := rfl
@[simp] theorem enc_txOut (e : Event) : (enc e s).txOut = s.txOut := rfl
@[simp] theorem enc_txFcnt (e : Event) : (enc e s).txFcnt = s.txFcnt := rfl
@[simp] theorem enc_ackIn (e : Event) : (enc e s).ackIn = s.ackIn := rfl
@[simp] theorem enc_drain (e : Event) : (enc e s).drain = s.drain := rfl
@[simp] theorem enc_drainT (e : Event) : (enc e s).drainT = s.drainT := rfl
@[simp] theorem enc_fwdS (e : Event) : (enc e s).fwdS = s.fwdS := rfl
@[simp] theorem enc_fwdL (e : Event) : (enc e s).fwdL = s.fwdL := rfl
@[simp] theorem enc_rxLines (e : Event) : (enc e s).rxLines = s.rxLines := rfl
@[simp] theorem enc_rxEdges (e : Event) : (enc e s).rxEdges = s.rxEdges := rfl
@[simp] theorem enc_rxPrev (e : Event) : (enc e s).rxPrev = s.rxPrev := rfl
@[simp] theorem enc_rxBuf (e : Event) : (enc e s).rxBuf = s.rxBuf := rfl
@[simp] theorem enc_rxLen (e : Event) : (enc e s).rxLen = s.rxLen := rfl
@[simp] theorem enc_rxAck (e : Event) : (enc e s).rxAck = s.rxAck := rfl
@[simp] theorem enc_hostOut (e : Event) : (enc e s).hostOut = s.hostOut := rfl
@[simp] theorem enc_localOut (e : Event) : (enc e s).localOut = s.localOut := rfl
@[simp] theorem enc_txTrace (e : Event) : (enc e s).txTrace = s.txTrace := rfl
@[simp] theorem enc_held (e : Event) : (enc e s).held = s.held := rfl
@[simp] theorem enc_refusals (e : Event) : (enc e s).refusals = s.refusals := rfl
@[simp] theorem enc_cmdIn (e : Event) : (enc e s).cmdIn = s.cmdIn := rfl
@[simp] theorem enc_turns (e : Event) : (enc e s).turns = s.turns := rfl
@[simp] theorem enc_turnNo (e : Event) : (enc e s).turnNo = s.turnNo := rfl

/-! ### `clearSlots` -/

@[simp] theorem clearSlots_cfg : (clearSlots s).cfg = s.cfg := rfl
@[simp] theorem clearSlots_bq : (clearSlots s).bq = s.bq := rfl
@[simp] theorem clearSlots_dw0 : (clearSlots s).dw0 = s.dw0 := rfl
@[simp] theorem clearSlots_dwl : (clearSlots s).dwl = s.dwl := rfl
@[simp] theorem clearSlots_mode : (clearSlots s).mode = s.mode := rfl
@[simp] theorem clearSlots_slots : (clearSlots s).slots = s.slots.map freeSlot := rfl
@[simp] theorem clearSlots_hwm : (clearSlots s).hwm = 0 := rfl
@[simp] theorem clearSlots_pktq : (clearSlots s).pktq = s.pktq := rfl
@[simp] theorem clearSlots_txHas : (clearSlots s).txHas = s.txHas := rfl
@[simp] theorem clearSlots_txPkt : (clearSlots s).txPkt = s.txPkt := rfl
@[simp] theorem clearSlots_txIdx : (clearSlots s).txIdx = s.txIdx := rfl
@[simp] theorem clearSlots_txGate : (clearSlots s).txGate = s.txGate := rfl
@[simp] theorem clearSlots_txOut : (clearSlots s).txOut = s.txOut := rfl
@[simp] theorem clearSlots_txFcnt : (clearSlots s).txFcnt = s.txFcnt := rfl
@[simp] theorem clearSlots_ackIn : (clearSlots s).ackIn = s.ackIn := rfl
@[simp] theorem clearSlots_drain : (clearSlots s).drain = s.drain := rfl
@[simp] theorem clearSlots_drainT : (clearSlots s).drainT = s.drainT := rfl
@[simp] theorem clearSlots_fwdS : (clearSlots s).fwdS = s.fwdS := rfl
@[simp] theorem clearSlots_fwdL : (clearSlots s).fwdL = s.fwdL := rfl
@[simp] theorem clearSlots_rxLines : (clearSlots s).rxLines = s.rxLines := rfl
@[simp] theorem clearSlots_rxEdges : (clearSlots s).rxEdges = s.rxEdges := rfl
@[simp] theorem clearSlots_rxPrev : (clearSlots s).rxPrev = s.rxPrev := rfl
@[simp] theorem clearSlots_rxBuf : (clearSlots s).rxBuf = s.rxBuf := rfl
@[simp] theorem clearSlots_rxLen : (clearSlots s).rxLen = s.rxLen := rfl
@[simp] theorem clearSlots_rxAck : (clearSlots s).rxAck = s.rxAck := rfl
@[simp] theorem clearSlots_hostOut : (clearSlots s).hostOut = s.hostOut := rfl
@[simp] theorem clearSlots_localOut : (clearSlots s).localOut = s.localOut := rfl
@[simp] theorem clearSlots_txTrace : (clearSlots s).txTrace = s.txTrace := rfl
@[simp] theorem clearSlots_held : (clearSlots s).held = s.held := rfl
@[simp] theorem clearSlots_refusals : (clearSlots s).refusals = s.refusals := rfl
@[simp] theorem clearSlots_cmdIn : (clearSlots s).cmdIn = s.cmdIn := rfl
@[simp] theorem clearSlots_turns : (clearSlots s).turns = s.turns := rfl
@[simp] theorem clearSlots_turnNo : (clearSlots s).turnNo = s.turnNo := rfl

/-! ### `insertSlot` -/

@[simp] theorem insertSlot_cfg (i : Nat) (e : Event) : (insertSlot i e s).cfg = s.cfg := rfl
@[simp] theorem insertSlot_bq (i : Nat) (e : Event) : (insertSlot i e s).bq = s.bq := rfl
@[simp] theorem insertSlot_dw0 (i : Nat) (e : Event) : (insertSlot i e s).dw0 = s.dw0 := rfl
@[simp] theorem insertSlot_dwl (i : Nat) (e : Event) : (insertSlot i e s).dwl = s.dwl := rfl
@[simp] theorem insertSlot_mode (i : Nat) (e : Event) : (insertSlot i e s).mode = s.mode := rfl
@[simp] theorem insertSlot_slots (i : Nat) (e : Event) : (insertSlot i e s).slots = s.slots.set i { occ := true, x := e.x, y := e.y, p := e.p } := rfl
@[simp] theorem insertSlot_hwm (i : Nat) (e : Event) : (insertSlot i e s).hwm = max s.hwm (i + 1) := rfl
@[simp] theorem insertSlot_pktq (i : Nat) (e : Event) : (insertSlot i e s).pktq = s.pktq := rfl
@[simp] theorem insertSlot_txHas (i : Nat) (e : Event) : (insertSlot i e s).txHas = s.txHas := rfl
@[simp] theorem insertSlot_txPkt (i : Nat) (e : Event) : (insertSlot i e s).txPkt = s.txPkt := rfl
@[simp] theorem insertSlot_txIdx (i : Nat) (e : Event) : (insertSlot i e s).txIdx = s.txIdx := rfl
@[simp] theorem insertSlot_txGate (i : Nat) (e : Event) : (insertSlot i e s).txGate = s.txGate := rfl
@[simp] theorem insertSlot_txOut (i : Nat) (e : Event) : (insertSlot i e s).txOut = s.txOut := rfl
@[simp] theorem insertSlot_txFcnt (i : Nat) (e : Event) : (insertSlot i e s).txFcnt = s.txFcnt := rfl
@[simp] theorem insertSlot_ackIn (i : Nat) (e : Event) : (insertSlot i e s).ackIn = s.ackIn := rfl
@[simp] theorem insertSlot_drain (i : Nat) (e : Event) : (insertSlot i e s).drain = s.drain := rfl
@[simp] theorem insertSlot_drainT (i : Nat) (e : Event) : (insertSlot i e s).drainT = s.drainT := rfl
@[simp] theorem insertSlot_fwdS (i : Nat) (e : Event) : (insertSlot i e s).fwdS = s.fwdS := rfl
@[simp] theorem insertSlot_fwdL (i : Nat) (e : Event) : (insertSlot i e s).fwdL = s.fwdL := rfl
@[simp] theorem insertSlot_rxLines (i : Nat) (e : Event) : (insertSlot i e s).rxLines = s.rxLines := rfl
@[simp] theorem insertSlot_rxEdges (i : Nat) (e : Event) : (insertSlot i e s).rxEdges = s.rxEdges := rfl
@[simp] theorem insertSlot_rxPrev (i : Nat) (e : Event) : (insertSlot i e s).rxPrev = s.rxPrev := rfl
@[simp] theorem insertSlot_rxBuf (i : Nat) (e : Event) : (insertSlot i e s).rxBuf = s.rxBuf := rfl
@[simp] theorem insertSlot_rxLen (i : Nat) (e : Event) : (insertSlot i e s).rxLen = s.rxLen := rfl
@[simp] theorem insertSlot_rxAck (i : Nat) (e : Event) : (insertSlot i e s).rxAck = s.rxAck := rfl
@[simp] theorem insertSlot_hostOut (i : Nat) (e : Event) : (insertSlot i e s).hostOut = s.hostOut := rfl
@[simp] theorem insertSlot_localOut (i : Nat) (e : Event) : (insertSlot i e s).localOut = s.localOut := rfl
@[simp] theorem insertSlot_txTrace (i : Nat) (e : Event) : (insertSlot i e s).txTrace = s.txTrace := rfl
@[simp] theorem insertSlot_held (i : Nat) (e : Event) : (insertSlot i e s).held = s.held := rfl
@[simp] theorem insertSlot_refusals (i : Nat) (e : Event) : (insertSlot i e s).refusals = s.refusals := rfl
@[simp] theorem insertSlot_cmdIn (i : Nat) (e : Event) : (insertSlot i e s).cmdIn = s.cmdIn := rfl
@[simp] theorem insertSlot_turns (i : Nat) (e : Event) : (insertSlot i e s).turns = s.turns := rfl
@[simp] theorem insertSlot_turnNo (i : Nat) (e : Event) : (insertSlot i e s).turnNo = s.turnNo := rfl

/-! ### `emitFree` -/

@[simp] theorem emitFree_cfg (b : Block) : (emitFree b s).cfg = s.cfg := rfl
@[simp] theorem emitFree_bq (b : Block) : (emitFree b s).bq = s.bq := rfl
@[simp] theorem emitFree_dw0 (b : Block) : (emitFree b s).dw0 = s.dw0 := rfl
@[simp] theorem emitFree_dwl (b : Block) : (emitFree b s).dwl = s.dwl := rfl
@[simp] theorem emitFree_mode (b : Block) : (emitFree b s).mode = s.mode := rfl
@[simp] theorem emitFree_slots (b : Block) : (emitFree b s).slots = freeContributors b s.slots s.hwm := rfl
@[simp] theorem emitFree_hwm (b : Block) : (emitFree b s).hwm = scanDown (freeContributors b s.slots s.hwm) s.hwm := rfl
@[simp] theorem emitFree_pktq (b : Block) : (emitFree b s).pktq = s.pktq := rfl
@[simp] theorem emitFree_txHas (b : Block) : (emitFree b s).txHas = s.txHas := rfl
@[simp] theorem emitFree_txPkt (b : Block) : (emitFree b s).txPkt = s.txPkt := rfl
@[simp] theorem emitFree_txIdx (b : Block) : (emitFree b s).txIdx = s.txIdx := rfl
@[simp] theorem emitFree_txGate (b : Block) : (emitFree b s).txGate = s.txGate := rfl
@[simp] theorem emitFree_txOut (b : Block) : (emitFree b s).txOut = s.txOut := rfl
@[simp] theorem emitFree_txFcnt (b : Block) : (emitFree b s).txFcnt = s.txFcnt := rfl
@[simp] theorem emitFree_ackIn (b : Block) : (emitFree b s).ackIn = s.ackIn := rfl
@[simp] theorem emitFree_drain (b : Block) : (emitFree b s).drain = s.drain := rfl
@[simp] theorem emitFree_drainT (b : Block) : (emitFree b s).drainT = s.drainT := rfl
@[simp] theorem emitFree_fwdS (b : Block) : (emitFree b s).fwdS = s.fwdS := rfl
@[simp] theorem emitFree_fwdL (b : Block) : (emitFree b s).fwdL = s.fwdL := rfl
@[simp] theorem emitFree_rxLines (b : Block) : (emitFree b s).rxLines = s.rxLines := rfl
@[simp] theorem emitFree_rxEdges (b : Block) : (emitFree b s).rxEdges = s.rxEdges := rfl
@[simp] theorem emitFree_rxPrev (b : Block) : (emitFree b s).rxPrev = s.rxPrev := rfl
@[simp] theorem emitFree_rxBuf (b : Block) : (emitFree b s).rxBuf = s.rxBuf := rfl
@[simp] theorem emitFree_rxLen (b : Block) : (emitFree b s).rxLen = s.rxLen := rfl
@[simp] theorem emitFree_rxAck (b : Block) : (emitFree b s).rxAck = s.rxAck := rfl
@[simp] theorem emitFree_hostOut (b : Block) : (emitFree b s).hostOut = s.hostOut := rfl
@[simp] theorem emitFree_localOut (b : Block) : (emitFree b s).localOut = s.localOut := rfl
@[simp] theorem emitFree_txTrace (b : Block) : (emitFree b s).txTrace = s.txTrace := rfl
@[simp] theorem emitFree_held (b : Block) : (emitFree b s).held = s.held := rfl
@[simp] theorem emitFree_refusals (b : Block) : (emitFree b s).refusals = s.refusals := rfl
@[simp] theorem emitFree_cmdIn (b : Block) : (emitFree b s).cmdIn = s.cmdIn := rfl
@[simp] theorem emitFree_turns (b : Block) : (emitFree b s).turns = s.turns := rfl
@[simp] theorem emitFree_turnNo (b : Block) : (emitFree b s).turnNo = s.turnNo := rfl

/-! ### `startWindow` -/

@[simp] theorem startWindow_cfg (b : Byte) : (startWindow b s).cfg = s.cfg := rfl
@[simp] theorem startWindow_bq (b : Byte) : (startWindow b s).bq = s.bq := rfl
@[simp] theorem startWindow_dw0 (b : Byte) : (startWindow b s).dw0 = b := rfl
@[simp] theorem startWindow_dwl (b : Byte) : (startWindow b s).dwl = true := rfl
@[simp] theorem startWindow_mode (b : Byte) : (startWindow b s).mode = s.mode := rfl
@[simp] theorem startWindow_slots (b : Byte) : (startWindow b s).slots = s.slots := rfl
@[simp] theorem startWindow_hwm (b : Byte) : (startWindow b s).hwm = s.hwm := rfl
@[simp] theorem startWindow_pktq (b : Byte) : (startWindow b s).pktq = s.pktq := rfl
@[simp] theorem startWindow_txHas (b : Byte) : (startWindow b s).txHas = s.txHas := rfl
@[simp] theorem startWindow_txPkt (b : Byte) : (startWindow b s).txPkt = s.txPkt := rfl
@[simp] theorem startWindow_txIdx (b : Byte) : (startWindow b s).txIdx = s.txIdx := rfl
@[simp] theorem startWindow_txGate (b : Byte) : (startWindow b s).txGate = s.txGate := rfl
@[simp] theorem startWindow_txOut (b : Byte) : (startWindow b s).txOut = s.txOut := rfl
@[simp] theorem startWindow_txFcnt (b : Byte) : (startWindow b s).txFcnt = s.txFcnt := rfl
@[simp] theorem startWindow_ackIn (b : Byte) : (startWindow b s).ackIn = s.ackIn := rfl
@[simp] theorem startWindow_drain (b : Byte) : (startWindow b s).drain = s.drain := rfl
@[simp] theorem startWindow_drainT (b : Byte) : (startWindow b s).drainT = s.drainT := rfl
@[simp] theorem startWindow_fwdS (b : Byte) : (startWindow b s).fwdS = s.fwdS := rfl
@[simp] theorem startWindow_fwdL (b : Byte) : (startWindow b s).fwdL = s.fwdL := rfl
@[simp] theorem startWindow_rxLines (b : Byte) : (startWindow b s).rxLines = s.rxLines := rfl
@[simp] theorem startWindow_rxEdges (b : Byte) : (startWindow b s).rxEdges = s.rxEdges := rfl
@[simp] theorem startWindow_rxPrev (b : Byte) : (startWindow b s).rxPrev = s.rxPrev := rfl
@[simp] theorem startWindow_rxBuf (b : Byte) : (startWindow b s).rxBuf = s.rxBuf := rfl
@[simp] theorem startWindow_rxLen (b : Byte) : (startWindow b s).rxLen = s.rxLen := rfl
@[simp] theorem startWindow_rxAck (b : Byte) : (startWindow b s).rxAck = s.rxAck := rfl
@[simp] theorem startWindow_hostOut (b : Byte) : (startWindow b s).hostOut = s.hostOut := rfl
@[simp] theorem startWindow_localOut (b : Byte) : (startWindow b s).localOut = s.localOut := rfl
@[simp] theorem startWindow_txTrace (b : Byte) : (startWindow b s).txTrace = s.txTrace := rfl
@[simp] theorem startWindow_held (b : Byte) : (startWindow b s).held = s.held := rfl
@[simp] theorem startWindow_refusals (b : Byte) : (startWindow b s).refusals = s.refusals := rfl
@[simp] theorem startWindow_cmdIn (b : Byte) : (startWindow b s).cmdIn = s.cmdIn := rfl
@[simp] theorem startWindow_turns (b : Byte) : (startWindow b s).turns = s.turns := rfl
@[simp] theorem startWindow_turnNo (b : Byte) : (startWindow b s).turnNo = s.turnNo := rfl

/-! ### `resetWindow` -/

@[simp] theorem resetWindow_cfg : (resetWindow s).cfg = s.cfg := rfl
@[simp] theorem resetWindow_bq : (resetWindow s).bq = s.bq := rfl
@[simp] theorem resetWindow_dw0 : (resetWindow s).dw0 = s.dw0 := rfl
@[simp] theorem resetWindow_dwl : (resetWindow s).dwl = false := rfl
@[simp] theorem resetWindow_mode : (resetWindow s).mode = s.mode := rfl
@[simp] theorem resetWindow_slots : (resetWindow s).slots = s.slots := rfl
@[simp] theorem resetWindow_hwm : (resetWindow s).hwm = s.hwm := rfl
@[simp] theorem resetWindow_pktq : (resetWindow s).pktq = s.pktq := rfl
@[simp] theorem resetWindow_txHas : (resetWindow s).txHas = s.txHas := rfl
@[simp] theorem resetWindow_txPkt : (resetWindow s).txPkt = s.txPkt := rfl
@[simp] theorem resetWindow_txIdx : (resetWindow s).txIdx = s.txIdx := rfl
@[simp] theorem resetWindow_txGate : (resetWindow s).txGate = s.txGate := rfl
@[simp] theorem resetWindow_txOut : (resetWindow s).txOut = s.txOut := rfl
@[simp] theorem resetWindow_txFcnt : (resetWindow s).txFcnt = s.txFcnt := rfl
@[simp] theorem resetWindow_ackIn : (resetWindow s).ackIn = s.ackIn := rfl
@[simp] theorem resetWindow_drain : (resetWindow s).drain = s.drain := rfl
@[simp] theorem resetWindow_drainT : (resetWindow s).drainT = s.drainT := rfl
@[simp] theorem resetWindow_fwdS : (resetWindow s).fwdS = s.fwdS := rfl
@[simp] theorem resetWindow_fwdL : (resetWindow s).fwdL = s.fwdL := rfl
@[simp] theorem resetWindow_rxLines : (resetWindow s).rxLines = s.rxLines := rfl
@[simp] theorem resetWindow_rxEdges : (resetWindow s).rxEdges = s.rxEdges := rfl
@[simp] theorem resetWindow_rxPrev : (resetWindow s).rxPrev = s.rxPrev := rfl
@[simp] theorem resetWindow_rxBuf : (resetWindow s).rxBuf = s.rxBuf := rfl
@[simp] theorem resetWindow_rxLen : (resetWindow s).rxLen = s.rxLen := rfl
@[simp] theorem resetWindow_rxAck : (resetWindow s).rxAck = s.rxAck := rfl
@[simp] theorem resetWindow_hostOut : (resetWindow s).hostOut = s.hostOut := rfl
@[simp] theorem resetWindow_localOut : (resetWindow s).localOut = s.localOut := rfl
@[simp] theorem resetWindow_txTrace : (resetWindow s).txTrace = s.txTrace := rfl
@[simp] theorem resetWindow_held : (resetWindow s).held = s.held := rfl
@[simp] theorem resetWindow_refusals : (resetWindow s).refusals = s.refusals := rfl
@[simp] theorem resetWindow_cmdIn : (resetWindow s).cmdIn = s.cmdIn := rfl
@[simp] theorem resetWindow_turns : (resetWindow s).turns = s.turns := rfl
@[simp] theorem resetWindow_turnNo : (resetWindow s).turnNo = s.turnNo := rfl

/-! ### `driveBus` -/

@[simp] theorem driveBus_cfg (sym : Symbol) : (driveBus sym s).cfg = s.cfg := rfl
@[simp] theorem driveBus_bq (sym : Symbol) : (driveBus sym s).bq = s.bq := rfl
@[simp] theorem driveBus_dw0 (sym : Symbol) : (driveBus sym s).dw0 = s.dw0 := rfl
@[simp] theorem driveBus_dwl (sym : Symbol) : (driveBus sym s).dwl = s.dwl := rfl
@[simp] theorem driveBus_mode (sym : Symbol) : (driveBus sym s).mode = s.mode := rfl
@[simp] theorem driveBus_slots (sym : Symbol) : (driveBus sym s).slots = s.slots := rfl
@[simp] theorem driveBus_hwm (sym : Symbol) : (driveBus sym s).hwm = s.hwm := rfl
@[simp] theorem driveBus_pktq (sym : Symbol) : (driveBus sym s).pktq = s.pktq := rfl
@[simp] theorem driveBus_txHas (sym : Symbol) : (driveBus sym s).txHas = s.txHas := rfl
@[simp] theorem driveBus_txPkt (sym : Symbol) : (driveBus sym s).txPkt = s.txPkt := rfl
@[simp] theorem driveBus_txIdx (sym : Symbol) : (driveBus sym s).txIdx = s.txIdx := rfl
@[simp] theorem driveBus_txGate (sym : Symbol) : (driveBus sym s).txGate = s.txGate := rfl
@[simp] theorem driveBus_txOut (sym : Symbol) : (driveBus sym s).txOut = s.txOut ^^^ sym := rfl
@[simp] theorem driveBus_txFcnt (sym : Symbol) : (driveBus sym s).txFcnt = s.txFcnt := rfl
@[simp] theorem driveBus_ackIn (sym : Symbol) : (driveBus sym s).ackIn = s.ackIn := rfl
@[simp] theorem driveBus_drain (sym : Symbol) : (driveBus sym s).drain = s.drain := rfl
@[simp] theorem driveBus_drainT (sym : Symbol) : (driveBus sym s).drainT = s.drainT := rfl
@[simp] theorem driveBus_fwdS (sym : Symbol) : (driveBus sym s).fwdS = s.fwdS := rfl
@[simp] theorem driveBus_fwdL (sym : Symbol) : (driveBus sym s).fwdL = s.fwdL := rfl
@[simp] theorem driveBus_rxLines (sym : Symbol) : (driveBus sym s).rxLines = s.rxLines := rfl
@[simp] theorem driveBus_rxEdges (sym : Symbol) : (driveBus sym s).rxEdges = s.rxEdges := rfl
@[simp] theorem driveBus_rxPrev (sym : Symbol) : (driveBus sym s).rxPrev = s.rxPrev := rfl
@[simp] theorem driveBus_rxBuf (sym : Symbol) : (driveBus sym s).rxBuf = s.rxBuf := rfl
@[simp] theorem driveBus_rxLen (sym : Symbol) : (driveBus sym s).rxLen = s.rxLen := rfl
@[simp] theorem driveBus_rxAck (sym : Symbol) : (driveBus sym s).rxAck = s.rxAck := rfl
@[simp] theorem driveBus_hostOut (sym : Symbol) : (driveBus sym s).hostOut = s.hostOut := rfl
@[simp] theorem driveBus_localOut (sym : Symbol) : (driveBus sym s).localOut = s.localOut := rfl
@[simp] theorem driveBus_txTrace (sym : Symbol) : (driveBus sym s).txTrace = s.txTrace ++ [s.txOut ^^^ sym] := rfl
@[simp] theorem driveBus_held (sym : Symbol) : (driveBus sym s).held = s.held := rfl
@[simp] theorem driveBus_refusals (sym : Symbol) : (driveBus sym s).refusals = s.refusals := rfl
@[simp] theorem driveBus_cmdIn (sym : Symbol) : (driveBus sym s).cmdIn = s.cmdIn := rfl
@[simp] theorem driveBus_turns (sym : Symbol) : (driveBus sym s).turns = s.turns := rfl
@[simp] theorem driveBus_turnNo (sym : Symbol) : (driveBus sym s).turnNo = s.turnNo := rfl

/-! ### `emptyRxBuf` -/

@[simp] theorem emptyRxBuf_cfg : (emptyRxBuf s).cfg = s.cfg := rfl
@[simp] theorem emptyRxBuf_bq : (emptyRxBuf s).bq = s.bq := rfl
@[simp] theorem emptyRxBuf_dw0 : (emptyRxBuf s).dw0 = s.dw0 := rfl
@[simp] theorem emptyRxBuf_dwl : (emptyRxBuf s).dwl = s.dwl := rfl
@[simp] theorem emptyRxBuf_mode : (emptyRxBuf s).mode = s.mode := rfl
@[simp] theorem emptyRxBuf_slots : (emptyRxBuf s).slots = s.slots := rfl
@[simp] theorem emptyRxBuf_hwm : (emptyRxBuf s).hwm = s.hwm := rfl
@[simp] theorem emptyRxBuf_pktq : (emptyRxBuf s).pktq = s.pktq := rfl
@[simp] theorem emptyRxBuf_txHas : (emptyRxBuf s).txHas = s.txHas := rfl
@[simp] theorem emptyRxBuf_txPkt : (emptyRxBuf s).txPkt = s.txPkt := rfl
@[simp] theorem emptyRxBuf_txIdx : (emptyRxBuf s).txIdx = s.txIdx := rfl
@[simp] theorem emptyRxBuf_txGate : (emptyRxBuf s).txGate = s.txGate := rfl
@[simp] theorem emptyRxBuf_txOut : (emptyRxBuf s).txOut = s.txOut := rfl
@[simp] theorem emptyRxBuf_txFcnt : (emptyRxBuf s).txFcnt = s.txFcnt := rfl
@[simp] theorem emptyRxBuf_ackIn : (emptyRxBuf s).ackIn = s.ackIn := rfl
@[simp] theorem emptyRxBuf_drain : (emptyRxBuf s).drain = s.drain := rfl
@[simp] theorem emptyRxBuf_drainT : (emptyRxBuf s).drainT = s.drainT := rfl
@[simp] theorem emptyRxBuf_fwdS : (emptyRxBuf s).fwdS = s.fwdS := rfl
@[simp] theorem emptyRxBuf_fwdL : (emptyRxBuf s).fwdL = s.fwdL := rfl
@[simp] theorem emptyRxBuf_rxLines : (emptyRxBuf s).rxLines = s.rxLines := rfl
@[simp] theorem emptyRxBuf_rxEdges : (emptyRxBuf s).rxEdges = s.rxEdges := rfl
@[simp] theorem emptyRxBuf_rxPrev : (emptyRxBuf s).rxPrev = s.rxPrev := rfl
@[simp] theorem emptyRxBuf_rxBuf : (emptyRxBuf s).rxBuf = s.rxBuf := rfl
@[simp] theorem emptyRxBuf_rxLen : (emptyRxBuf s).rxLen = 0 := rfl
@[simp] theorem emptyRxBuf_rxAck : (emptyRxBuf s).rxAck = s.rxAck := rfl
@[simp] theorem emptyRxBuf_hostOut : (emptyRxBuf s).hostOut = s.hostOut := rfl
@[simp] theorem emptyRxBuf_localOut : (emptyRxBuf s).localOut = s.localOut := rfl
@[simp] theorem emptyRxBuf_txTrace : (emptyRxBuf s).txTrace = s.txTrace := rfl
@[simp] theorem emptyRxBuf_held : (emptyRxBuf s).held = s.held := rfl
@[simp] theorem emptyRxBuf_refusals : (emptyRxBuf s).refusals = s.refusals := rfl
@[simp] theorem emptyRxBuf_cmdIn : (emptyRxBuf s).cmdIn = s.cmdIn := rfl
@[simp] theorem emptyRxBuf_turns : (emptyRxBuf s).turns = s.turns := rfl
@[simp] theorem emptyRxBuf_turnNo : (emptyRxBuf s).turnNo = s.turnNo := rfl

/-! ### `takeSample` -/

@[simp] theorem takeSample_cfg : (takeSample s).cfg = s.cfg := rfl
@[simp] theorem takeSample_bq : (takeSample s).bq = s.bq := rfl
@[simp] theorem takeSample_dw0 : (takeSample s).dw0 = s.dw0 := rfl
@[simp] theorem takeSample_dwl : (takeSample s).dwl = s.dwl := rfl
@[simp] theorem takeSample_mode : (takeSample s).mode = s.mode := rfl
@[simp] theorem takeSample_slots : (takeSample s).slots = s.slots := rfl
@[simp] theorem takeSample_hwm : (takeSample s).hwm = s.hwm := rfl
@[simp] theorem takeSample_pktq : (takeSample s).pktq = s.pktq := rfl
@[simp] theorem takeSample_txHas : (takeSample s).txHas = s.txHas := rfl
@[simp] theorem takeSample_txPkt : (takeSample s).txPkt = s.txPkt := rfl
@[simp] theorem takeSample_txIdx : (takeSample s).txIdx = s.txIdx := rfl
@[simp] theorem takeSample_txGate : (takeSample s).txGate = s.txGate := rfl
@[simp] theorem takeSample_txOut : (takeSample s).txOut = s.txOut := rfl
@[simp] theorem takeSample_txFcnt : (takeSample s).txFcnt = s.txFcnt := rfl
@[simp] theorem takeSample_ackIn : (takeSample s).ackIn = s.ackIn := rfl
@[simp] theorem takeSample_drain : (takeSample s).drain = s.drain := rfl
@[simp] theorem takeSample_drainT : (takeSample s).drainT = s.drainT := rfl
@[simp] theorem takeSample_fwdS : (takeSample s).fwdS = s.fwdS := rfl
@[simp] theorem takeSample_fwdL : (takeSample s).fwdL = s.fwdL := rfl
@[simp] theorem takeSample_rxLines : (takeSample s).rxLines = s.rxLines := rfl
@[simp] theorem takeSample_rxEdges : (takeSample s).rxEdges = s.rxEdges - Config.rxEdgesPerSample := rfl
@[simp] theorem takeSample_rxPrev : (takeSample s).rxPrev = s.rxLines := rfl
@[simp] theorem takeSample_rxBuf : (takeSample s).rxBuf = s.rxBuf.set s.rxLen (recoveredSymbol s) := rfl
@[simp] theorem takeSample_rxLen : (takeSample s).rxLen = s.rxLen + 1 := rfl
@[simp] theorem takeSample_rxAck : (takeSample s).rxAck = (!s.rxAck) := rfl
@[simp] theorem takeSample_hostOut : (takeSample s).hostOut = s.hostOut := rfl
@[simp] theorem takeSample_localOut : (takeSample s).localOut = s.localOut := rfl
@[simp] theorem takeSample_txTrace : (takeSample s).txTrace = s.txTrace := rfl
@[simp] theorem takeSample_held : (takeSample s).held = s.held := rfl
@[simp] theorem takeSample_refusals : (takeSample s).refusals = s.refusals := rfl
@[simp] theorem takeSample_cmdIn : (takeSample s).cmdIn = s.cmdIn := rfl
@[simp] theorem takeSample_turns : (takeSample s).turns = s.turns := rfl
@[simp] theorem takeSample_turnNo : (takeSample s).turnNo = s.turnNo := rfl

/-! ### `passTurn` -/

@[simp] theorem passTurn_cfg : (passTurn s).cfg = s.cfg := rfl
@[simp] theorem passTurn_bq : (passTurn s).bq = s.bq := rfl
@[simp] theorem passTurn_dw0 : (passTurn s).dw0 = s.dw0 := rfl
@[simp] theorem passTurn_dwl : (passTurn s).dwl = s.dwl := rfl
@[simp] theorem passTurn_mode : (passTurn s).mode = s.mode := rfl
@[simp] theorem passTurn_slots : (passTurn s).slots = s.slots := rfl
@[simp] theorem passTurn_hwm : (passTurn s).hwm = s.hwm := rfl
@[simp] theorem passTurn_pktq : (passTurn s).pktq = s.pktq := rfl
@[simp] theorem passTurn_txHas : (passTurn s).txHas = s.txHas := rfl
@[simp] theorem passTurn_txPkt : (passTurn s).txPkt = s.txPkt := rfl
@[simp] theorem passTurn_txIdx : (passTurn s).txIdx = s.txIdx := rfl
@[simp] theorem passTurn_txGate : (passTurn s).txGate = s.txGate := rfl
@[simp] theorem passTurn_txOut : (passTurn s).txOut = s.txOut := rfl
@[simp] theorem passTurn_txFcnt : (passTurn s).txFcnt = s.txFcnt := rfl
@[simp] theorem passTurn_ackIn : (passTurn s).ackIn = s.ackIn := rfl
@[simp] theorem passTurn_drain : (passTurn s).drain = s.drain := rfl
@[simp] theorem passTurn_drainT : (passTurn s).drainT = s.drainT := rfl
@[simp] theorem passTurn_fwdS : (passTurn s).fwdS = s.fwdS := rfl
@[simp] theorem passTurn_fwdL : (passTurn s).fwdL = s.fwdL := rfl
@[simp] theorem passTurn_rxLines : (passTurn s).rxLines = s.rxLines := rfl
@[simp] theorem passTurn_rxEdges : (passTurn s).rxEdges = s.rxEdges := rfl
@[simp] theorem passTurn_rxPrev : (passTurn s).rxPrev = s.rxPrev := rfl
@[simp] theorem passTurn_rxBuf : (passTurn s).rxBuf = s.rxBuf := rfl
@[simp] theorem passTurn_rxLen : (passTurn s).rxLen = s.rxLen := rfl
@[simp] theorem passTurn_rxAck : (passTurn s).rxAck = s.rxAck := rfl
@[simp] theorem passTurn_hostOut : (passTurn s).hostOut = s.hostOut := rfl
@[simp] theorem passTurn_localOut : (passTurn s).localOut = s.localOut := rfl
@[simp] theorem passTurn_txTrace : (passTurn s).txTrace = s.txTrace := rfl
@[simp] theorem passTurn_held : (passTurn s).held = s.held := rfl
@[simp] theorem passTurn_refusals : (passTurn s).refusals = s.refusals := rfl
@[simp] theorem passTurn_cmdIn : (passTurn s).cmdIn = s.cmdIn := rfl
@[simp] theorem passTurn_turns : (passTurn s).turns = s.turns.tail := rfl
@[simp] theorem passTurn_turnNo : (passTurn s).turnNo = s.turnNo + 1 := rfl

/-! ### `setFwd`: the other controller and every other field stay -/

@[simp] theorem getFwd_setFwd_same (k : Path) (f : Fwd) : getFwd k (setFwd k f s) = f := by
  cases k <;> rfl

@[simp] theorem getFwd_setFwd_other (k l : Path) (f : Fwd) (h : l ≠ k) : getFwd l (setFwd k f s) = getFwd l s := by
  cases k <;> cases l <;> first | rfl | exact absurd rfl h

@[simp] theorem setFwd_S (f : Fwd) : setFwd .S f s = { s with fwdS := f } := rfl
@[simp] theorem setFwd_L (f : Fwd) : setFwd .L f s = { s with fwdL := f } := rfl
@[simp] theorem getFwd_S : getFwd .S s = s.fwdS := rfl
@[simp] theorem getFwd_L : getFwd .L s = s.fwdL := rfl

@[simp] theorem setFwd_cfg (k : Path) (f : Fwd) : (setFwd k f s).cfg = s.cfg := by
  cases k <;> rfl
@[simp] theorem setFwd_bq (k : Path) (f : Fwd) : (setFwd k f s).bq = s.bq := by
  cases k <;> rfl
@[simp] theorem setFwd_dw0 (k : Path) (f : Fwd) : (setFwd k f s).dw0 = s.dw0 := by
  cases k <;> rfl
@[simp] theorem setFwd_dwl (k : Path) (f : Fwd) : (setFwd k f s).dwl = s.dwl := by
  cases k <;> rfl
@[simp] theorem setFwd_mode (k : Path) (f : Fwd) : (setFwd k f s).mode = s.mode := by
  cases k <;> rfl
@[simp] theorem setFwd_slots (k : Path) (f : Fwd) : (setFwd k f s).slots = s.slots := by
  cases k <;> rfl
@[simp] theorem setFwd_hwm (k : Path) (f : Fwd) : (setFwd k f s).hwm = s.hwm := by
  cases k <;> rfl
@[simp] theorem setFwd_pktq (k : Path) (f : Fwd) : (setFwd k f s).pktq = s.pktq := by
  cases k <;> rfl
@[simp] theorem setFwd_txHas (k : Path) (f : Fwd) : (setFwd k f s).txHas = s.txHas := by
  cases k <;> rfl
@[simp] theorem setFwd_txPkt (k : Path) (f : Fwd) : (setFwd k f s).txPkt = s.txPkt := by
  cases k <;> rfl
@[simp] theorem setFwd_txIdx (k : Path) (f : Fwd) : (setFwd k f s).txIdx = s.txIdx := by
  cases k <;> rfl
@[simp] theorem setFwd_txGate (k : Path) (f : Fwd) : (setFwd k f s).txGate = s.txGate := by
  cases k <;> rfl
@[simp] theorem setFwd_txOut (k : Path) (f : Fwd) : (setFwd k f s).txOut = s.txOut := by
  cases k <;> rfl
@[simp] theorem setFwd_txFcnt (k : Path) (f : Fwd) : (setFwd k f s).txFcnt = s.txFcnt := by
  cases k <;> rfl
@[simp] theorem setFwd_ackIn (k : Path) (f : Fwd) : (setFwd k f s).ackIn = s.ackIn := by
  cases k <;> rfl
@[simp] theorem setFwd_drain (k : Path) (f : Fwd) : (setFwd k f s).drain = s.drain := by
  cases k <;> rfl
@[simp] theorem setFwd_drainT (k : Path) (f : Fwd) : (setFwd k f s).drainT = s.drainT := by
  cases k <;> rfl
@[simp] theorem setFwd_rxLines (k : Path) (f : Fwd) : (setFwd k f s).rxLines = s.rxLines := by
  cases k <;> rfl
@[simp] theorem setFwd_rxEdges (k : Path) (f : Fwd) : (setFwd k f s).rxEdges = s.rxEdges := by
  cases k <;> rfl
@[simp] theorem setFwd_rxPrev (k : Path) (f : Fwd) : (setFwd k f s).rxPrev = s.rxPrev := by
  cases k <;> rfl
@[simp] theorem setFwd_rxBuf (k : Path) (f : Fwd) : (setFwd k f s).rxBuf = s.rxBuf := by
  cases k <;> rfl
@[simp] theorem setFwd_rxLen (k : Path) (f : Fwd) : (setFwd k f s).rxLen = s.rxLen := by
  cases k <;> rfl
@[simp] theorem setFwd_rxAck (k : Path) (f : Fwd) : (setFwd k f s).rxAck = s.rxAck := by
  cases k <;> rfl
@[simp] theorem setFwd_hostOut (k : Path) (f : Fwd) : (setFwd k f s).hostOut = s.hostOut := by
  cases k <;> rfl
@[simp] theorem setFwd_localOut (k : Path) (f : Fwd) : (setFwd k f s).localOut = s.localOut := by
  cases k <;> rfl
@[simp] theorem setFwd_txTrace (k : Path) (f : Fwd) : (setFwd k f s).txTrace = s.txTrace := by
  cases k <;> rfl
@[simp] theorem setFwd_held (k : Path) (f : Fwd) : (setFwd k f s).held = s.held := by
  cases k <;> rfl
@[simp] theorem setFwd_refusals (k : Path) (f : Fwd) : (setFwd k f s).refusals = s.refusals := by
  cases k <;> rfl
@[simp] theorem setFwd_cmdIn (k : Path) (f : Fwd) : (setFwd k f s).cmdIn = s.cmdIn := by
  cases k <;> rfl
@[simp] theorem setFwd_turns (k : Path) (f : Fwd) : (setFwd k f s).turns = s.turns := by
  cases k <;> rfl
@[simp] theorem setFwd_turnNo (k : Path) (f : Fwd) : (setFwd k f s).turnNo = s.turnNo := by
  cases k <;> rfl

end Sys2Proof.Machine
end

