-- ==== Sys2Proof/Laws/Ops.lean ====
section
/-! SUPPORT. For each shared operation, once, everything it can do. Later proofs cite these instead of unfolding. -/

namespace Sys2Proof.Machine

/-! ### Aggregator, encoder, window -/

/-- AGG_IN: encoded at Full; dropped when no slot is free; buffered below the threshold; emitted at it (R142, R143). -/
theorem aggIn_cases (e : Event) (s : State) :
    (s.mode = .full ∧ aggIn e s = enc e s) ∨
    (s.mode ≠ .full ∧ firstFree s.slots = none ∧ aggIn e s = s) ∨
    (∃ i, s.mode ≠ .full ∧ firstFree s.slots = some i ∧
      emits s.mode (tally (blockOf s.mode e) (insertSlot i e s)) = false ∧ aggIn e s = insertSlot i e s) ∨
    (∃ i, s.mode ≠ .full ∧ firstFree s.slots = some i ∧
      emits s.mode (tally (blockOf s.mode e) (insertSlot i e s)) = true ∧
      aggIn e s =
        enc (coarseEvent (blockOf s.mode e) (tally (blockOf s.mode e) (insertSlot i e s)))
          (emitFree (blockOf s.mode e) (insertSlot i e s))) := by
  by_cases hm : s.mode = .full
  · exact .inl ⟨hm, by simp [aggIn, hm]⟩
  · refine .inr ?_
    cases hf : firstFree s.slots with
    | none => exact .inl ⟨hm, rfl, by simp [aggIn, hm, agg, hf]⟩
    | some i =>
      refine .inr ?_
      cases he : emits s.mode (tally (blockOf s.mode e) (insertSlot i e s)) with
      | false => exact .inl ⟨i, hm, rfl, he, by simp [aggIn, hm, agg, hf, he]⟩
      | true => exact .inr ⟨i, hm, rfl, he, by simp [aggIn, hm, agg, hf, he]⟩

/-- AGG_IN writes nothing but the slots, HWM and PKTQ. -/
theorem aggIn_frame (e : Event) (s : State) :
    ∃ sl h q, aggIn e s = { s with slots := sl, hwm := h, pktq := q } := by
  rcases aggIn_cases e s with ⟨-, h⟩ | ⟨-, -, h⟩ | ⟨i, -, -, -, h⟩ | ⟨i, -, -, -, h⟩ <;> rw [h] <;>
    exact ⟨_, _, _, rfl⟩

/-- ENQUEUE takes at most one packet, and only from a full PKTQ, and adds one (R173). -/
theorem enqueue_pktq_cases (pkt : Packet) (s : State) :
    (enqueue pkt s).pktq = s.pktq ++ [pkt] ∧ s.pktq.length ≠ s.prm.pktQCap ∨
    (enqueue pkt s).pktq = s.pktq.drop 1 ++ [pkt] ∧ s.pktq.length = s.prm.pktQCap := by
  by_cases h : s.pktq.length = s.prm.pktQCap
  · exact .inr ⟨by simp [h], h⟩
  · exact .inl ⟨by simp [h], h⟩

/-- AGG_IN leaves PKTQ, or adds one packet at its tail after at most one eviction, from a full PKTQ (R173). -/
theorem aggIn_pktq (e : Event) (s : State) :
    ∃ (k : Nat) (new : List Packet), (aggIn e s).pktq = s.pktq.drop k ++ new ∧ k ≤ 1 ∧ new.length ≤ 1 ∧
      (k = 1 → s.pktq.length = s.prm.pktQCap ∧ new ≠ []) := by
  have key : ∀ (e2 : Event) (u : State), u.pktq = s.pktq → u.prm = s.prm →
      ∃ (k : Nat) (new : List Packet), (enc e2 u).pktq = s.pktq.drop k ++ new ∧ k ≤ 1 ∧ new.length ≤ 1 ∧
        (k = 1 → s.pktq.length = s.prm.pktQCap ∧ new ≠ []) := by
    intro e2 u hq hp
    rcases enqueue_pktq_cases (packetOf u.prm (payload u.prm u.mode e2)) u with ⟨h, -⟩ | ⟨h, hc⟩
    · exact ⟨0, _, by rw [List.drop_zero, ← hq]; exact h, by omega, by simp, by omega⟩
    · exact ⟨1, _, by rw [← hq]; exact h, by omega, by simp, fun _ => ⟨by rw [← hq, ← hp]; exact hc, by simp⟩⟩
  rcases aggIn_cases e s with ⟨-, h⟩ | ⟨-, -, h⟩ | ⟨i, -, -, -, h⟩ | ⟨i, -, -, -, h⟩ <;> rw [h]
  · exact key e s rfl rfl
  · exact ⟨0, [], by simp, by omega, by simp, by omega⟩
  · exact ⟨0, [], by simp, by omega, by simp, by omega⟩
  · exact key _ _ rfl rfl

/-- The mark scanned down from `h`: at most `h`, nothing occupied between it and `h`, and 0 or just above an occupied slot
(R146). -/
theorem scanDown_spec (sl : List Slot) (h : Nat) :
    scanDown sl h ≤ h ∧ (∀ j, scanDown sl h ≤ j → j < h → (sl.getD j Slot.free).occ = false) ∧
    (scanDown sl h = 0 ∨ (sl.getD (scanDown sl h - 1) Slot.free).occ = true) := by
  induction h with
  | zero => simp [scanDown]
  | succ n ih =>
    unfold scanDown
    split
    · rename_i ho
      exact ⟨by omega, by omega, .inr (by simpa using ho)⟩
    · rename_i ho
      refine ⟨by omega, fun j h1 h2 => ?_, ih.2.2⟩
      rcases Nat.lt_or_ge j n with h3 | h3
      · exact ih.2.1 j h1 h3
      · obtain rfl : j = n := by omega
        simpa using ho

/-- The first free slot: it is within the array, free, and every slot below it is occupied (R143 step 2). -/
theorem firstFree_eq_some (sl : List Slot) (i : Nat) :
    firstFree sl = some i ↔ i < sl.length ∧ (sl.getD i Slot.free).occ = false ∧
      ∀ j < i, (sl.getD j Slot.free).occ = true := by
  unfold firstFree
  rw [List.findIdx?_eq_some_iff_getElem]
  constructor
  · rintro ⟨hi, h0, hl⟩
    refine ⟨hi, by simpa [List.getD, hi] using h0, fun j hj => ?_⟩
    have hj2 : j < sl.length := by omega
    simpa [List.getD, hj2] using hl j hj
  · rintro ⟨hi, h0, hl⟩
    refine ⟨hi, by simpa [List.getD, hi] using h0, fun j hj => ?_⟩
    have hj2 : j < sl.length := by omega
    simpa [List.getD, hj2] using hl j hj

/-- No slot is free exactly when every slot is occupied (R143 step 1). -/
theorem firstFree_eq_none (sl : List Slot) : firstFree sl = none ↔ ∀ c ∈ sl, c.occ = true := by
  simp [firstFree, List.findIdx?_eq_none_iff]

/-- Freeing the contributors keeps the number of slots (R146). -/
@[simp] theorem freeContributors_length (b : Block) (sl : List Slot) (h : Nat) :
    (freeContributors b sl h).length = sl.length := by
  simp [freeContributors]
  omega

/-- SET_MODE's effect: the slots cleared or kept, MODE written (R140). -/
theorem applyMode_cases (m : Mode) (s : State) :
    ((m ≠ s.mode ∨ s.prm.clearOnSameMode = true) ∧ applyMode m s = { clearSlots s with mode := m }) ∨
    (m = s.mode ∧ s.prm.clearOnSameMode = false ∧ applyMode m s = { s with mode := m }) := by
  by_cases h : m ≠ s.mode ∨ s.prm.clearOnSameMode = true
  · exact .inl ⟨h, by rw [applyMode, if_pos h]⟩
  · refine .inr ?_
    have h2 := h
    simp only [not_or, ne_eq, not_not, Bool.not_eq_true] at h2
    exact ⟨h2.1, h2.2, by rw [applyMode, if_neg h]⟩

/-! ### Window -/

/-- BYTE_IN's effect: the byte appended, or dropped by a full BQ (R120). -/
theorem pushByte_cases (b : Byte) (s : State) :
    (s.bq.length < s.prm.byteQCap ∧ pushByte b s = { s with bq := s.bq ++ [b] }) ∨
    (s.prm.byteQCap ≤ s.bq.length ∧ pushByte b s = s) := by
  by_cases h : s.bq.length < s.prm.byteQCap
  · exact .inl ⟨h, by rw [pushByte, if_pos h]⟩
  · exact .inr ⟨by omega, by rw [pushByte, if_neg h]⟩

/-- WINDOW: the byte becomes byte1, or completes a valid frame whose event goes to the aggregator (R122). -/
theorem window_cases (b : Byte) (s : State) :
    ((s.dwl = false ∨ s.dw0.getLsbD 7 = false) ∧ window b s = startWindow b s) ∨
    (s.dwl = true ∧ s.dw0.getLsbD 7 = true ∧ window b s = aggIn (frameEvent s b) (resetWindow s)) := by
  unfold window
  by_cases hl : s.dwl = true
  · by_cases hb : s.dw0.getLsbD 7 = true
    · exact .inr ⟨hl, hb, by rw [if_pos hl, if_pos hb]⟩
    · exact .inl ⟨.inr (Bool.not_eq_true _ ▸ hb), by rw [if_pos hl, if_neg hb]⟩
  · exact .inl ⟨.inl (Bool.not_eq_true _ ▸ hl), by rw [if_neg hl]⟩

/-- WINDOW writes nothing but the window, the slots, HWM and PKTQ. -/
theorem window_frame (b : Byte) (s : State) :
    ∃ d l sl h q, window b s = { s with dw0 := d, dwl := l, slots := sl, hwm := h, pktq := q } := by
  rcases window_cases b s with ⟨-, h⟩ | ⟨-, -, h⟩
  · exact ⟨_, _, _, _, _, h⟩
  · obtain ⟨sl, hh, q, h2⟩ := aggIn_frame (frameEvent s b) (resetWindow s)
    exact ⟨_, _, _, _, _, h.trans h2⟩

/-! ### Command port -/

/-- A class C operation is held while DRAIN = 1 and applied otherwise (R96). -/
theorem commandStep_cases (i : Instr) (f : State → State) (s : State) :
    (s.drain = true ∧ commandStep i f s = holdCommand i s) ∨ (s.drain = false ∧ commandStep i f s = f s) := by
  cases h : s.drain with
  | true => exact .inl ⟨rfl, by simp [commandStep, h]⟩
  | false => exact .inr ⟨rfl, by simp [commandStep, h]⟩

/-! ### Transmitter -/

/-- A forwarded symbol: its byte, and P_TERM after every eleventh (R191). -/
theorem forwardSymbol_eq (sym : Symbol) (s : State) :
    forwardSymbol sym s = { s with
      hostOut := s.hostOut ++ (if s.txFcnt = 10 then [symbolByte sym, s.prm.term] else [symbolByte sym])
      txFcnt := if s.txFcnt = 10 then 0 else s.txFcnt + 1 } := by
  unfold forwardSymbol
  split <;> rfl

/-- The index advances, or the packet is done (R191). -/
theorem advancePacket_cases (s : State) :
    (s.txIdx = 10 ∧ advancePacket s = { s with txHas := false, txIdx := 0 }) ∨
    (s.txIdx ≠ 10 ∧ advancePacket s = { s with txIdx := s.txIdx + 1 }) := by
  by_cases h : s.txIdx = 10
  · exact .inl ⟨h, by simp [advancePacket, h]⟩
  · exact .inr ⟨h, by simp [advancePacket, h]⟩

/-- Moving on in the packet writes nothing but TX_HAS and TX_IDX (R191). -/
theorem advancePacket_frame (s : State) : ∃ has idx, advancePacket s = { s with txHas := has, txIdx := idx } := by
  rcases advancePacket_cases s with ⟨-, h⟩ | ⟨-, h⟩ <;> exact ⟨_, _, h⟩

/-- The disable path's acquire: the gate taken, or the bounded wait begun (R221). -/
theorem acquireGate_cases (s : State) :
    (s.txGate = true ∧ acquireGate s = takeGate s) ∨
    (s.txGate = false ∧ acquireGate s = { s with drain := true, drainT := Config.drainTimeout }) := by
  cases h : s.txGate with
  | true => exact .inl ⟨rfl, by simp [acquireGate, h]⟩
  | false => exact .inr ⟨rfl, by simp [acquireGate, h]⟩

/-! ### Receiver -/

/-- A frame's value: none for a full buffer that is discarded, for one shorter than 6 symbols, and for one with a miss;
else the value at positions 2 to 5 (R242). -/
theorem frameResult_cases (why : FrameEnd) (s : State) :
    ((why = .full ∧ s.prm.rxFullAction = .discard ∨ s.rxLen < 6) ∧ frameResult why s = none) ∨
    (¬ (why = .full ∧ s.prm.rxFullAction = .discard) ∧ 6 ≤ s.rxLen ∧ frameResult why s = frameValue s.prm s.rxBuf) := by
  by_cases hf : why = .full ∧ s.prm.rxFullAction = .discard
  · exact .inl ⟨.inl hf, by rw [frameResult, if_pos hf]⟩
  · by_cases hl : s.rxLen < 6
    · exact .inl ⟨.inr hl, by rw [frameResult, if_neg hf, if_pos hl]⟩
    · exact .inr ⟨hf, by omega, by rw [frameResult, if_neg hf, if_neg hl]⟩

/-- A delivered value goes to the host or to the local stream (R242). -/
theorem deliver_cases (v : Payload) (s : State) :
    (s.fwdL.active = true ∧ deliver v s = emitHost (valueRecord s.prm v) s) ∨
    (s.fwdL.active = false ∧ deliver v s = emitLocal v s) := by
  cases h : s.fwdL.active with
  | true => exact .inl ⟨rfl, by simp [deliver, h]⟩
  | false => exact .inr ⟨rfl, by simp [deliver, h]⟩

/-- FRAME_END delivers the frame's value or discards the frame, and empties the buffer (R242). -/
theorem frameEnd_cases (why : FrameEnd) (s : State) :
    (frameResult why s = none ∧ frameEnd why s = emptyRxBuf s) ∨
    (∃ v, frameResult why s = some v ∧ frameEnd why s = emptyRxBuf (deliver v s)) := by
  cases h : frameResult why s with
  | none => exact .inl ⟨rfl, by simp [frameEnd, h]⟩
  | some v => exact .inr ⟨v, rfl, by simp [frameEnd, h]⟩

/-- FRAME_END writes nothing but RX_LEN and the two streams, and appends nothing, one value's record to the host, or one
value locally (R242). -/
theorem frameEnd_frame (why : FrameEnd) (s : State) :
    ∃ (h : List Byte) (l : List Payload), frameEnd why s =
        { s with rxLen := 0, hostOut := s.hostOut ++ h, localOut := s.localOut ++ l } ∧
      ((h = [] ∧ l = []) ∨ (∃ v, h = valueRecord s.prm v ∧ l = []) ∨ (∃ v, h = [] ∧ l = [v])) := by
  rcases frameEnd_cases why s with ⟨-, h⟩ | ⟨v, -, h⟩
  · exact ⟨[], [], by rw [h]; simp [emptyRxBuf], .inl ⟨rfl, rfl⟩⟩
  · rcases deliver_cases v s with ⟨-, hd⟩ | ⟨-, hd⟩ <;> rw [h, hd]
    · exact ⟨valueRecord s.prm v, [], by simp [emptyRxBuf, emitHost], .inr (.inl ⟨v, rfl, rfl⟩)⟩
    · exact ⟨[], [v], by simp [emptyRxBuf, emitLocal], .inr (.inr ⟨v, rfl, rfl⟩)⟩

/-- The end-of-frame test: EOP first, then a full buffer, else the frame goes on (R241). -/
theorem closeFrame_cases (sym : Symbol) (s : State) :
    (sym = eop s.prm ∧ closeFrame sym s = frameEnd .eop s) ∨
    (sym ≠ eop s.prm ∧ s.rxLen = s.prm.rxCap ∧ closeFrame sym s = frameEnd .full s) ∨
    (sym ≠ eop s.prm ∧ s.rxLen ≠ s.prm.rxCap ∧ closeFrame sym s = s) := by
  by_cases he : sym = eop s.prm
  · exact .inl ⟨he, by simp [closeFrame, he]⟩
  · by_cases hf : s.rxLen = s.prm.rxCap
    · exact .inr (.inl ⟨he, hf, by simp [closeFrame, he, hf]⟩)
    · exact .inr (.inr ⟨he, hf, by simp [closeFrame, he, hf]⟩)

/-- The end-of-frame test writes nothing but RX_LEN and the two streams, and appends as FRAME_END does. -/
theorem closeFrame_frame (sym : Symbol) (s : State) :
    ∃ (n : Nat) (h : List Byte) (l : List Payload), closeFrame sym s =
        { s with rxLen := n, hostOut := s.hostOut ++ h, localOut := s.localOut ++ l } ∧
      ((h = [] ∧ l = []) ∨ (∃ v, h = valueRecord s.prm v ∧ l = []) ∨ (∃ v, h = [] ∧ l = [v])) := by
  rcases closeFrame_cases sym s with ⟨-, h⟩ | ⟨-, -, h⟩ | ⟨-, -, h⟩
  · obtain ⟨hh, l, he, ho⟩ := frameEnd_frame .eop s
    exact ⟨0, hh, l, h.trans he, ho⟩
  · obtain ⟨hh, l, he, ho⟩ := frameEnd_frame .full s
    exact ⟨0, hh, l, h.trans he, ho⟩
  · exact ⟨s.rxLen, [], [], by rw [h]; simp, .inl ⟨rfl, rfl⟩⟩

/-! ### Controllers and time -/

/-- One TICK of a controller: not armed, it stays; armed, it counts down, and expires at 0 (R223). -/
theorem tickFwd_cases (f : Fwd) :
    (f.armed = false ∧ tickFwd f = f) ∨
    (f.armed = true ∧ f.rem - 1 = 0 ∧ tickFwd f = { active := false, armed := false, rem := 0 }) ∨
    (f.armed = true ∧ f.rem - 1 ≠ 0 ∧ tickFwd f = { f with rem := f.rem - 1 }) := by
  unfold tickFwd
  by_cases ha : f.armed = true
  · by_cases hr : f.rem - 1 = 0
    · exact .inr (.inl ⟨ha, hr, by rw [if_pos ha, if_pos hr]⟩)
    · exact .inr (.inr ⟨ha, hr, by rw [if_pos ha, if_neg hr]⟩)
  · exact .inl ⟨Bool.not_eq_true _ ▸ ha, by rw [if_neg ha]⟩

/-- One TICK of the drain: no wait, nothing; a wait counts down, and ends at 0 without the gate (R223). -/
theorem tickDrain_cases (s : State) :
    (s.drain = false ∧ tickDrain s = s) ∨
    (s.drain = true ∧ s.drainT - 1 = 0 ∧ tickDrain s = { s with drain := false, drainT := 0 }) ∨
    (s.drain = true ∧ s.drainT - 1 ≠ 0 ∧ tickDrain s = { s with drainT := s.drainT - 1 }) := by
  unfold tickDrain
  by_cases hd : s.drain = true
  · by_cases hr : s.drainT - 1 = 0
    · exact .inr (.inl ⟨hd, hr, by rw [if_pos hd, if_pos hr]⟩)
    · exact .inr (.inr ⟨hd, hr, by rw [if_pos hd, if_neg hr]⟩)
  · exact .inl ⟨Bool.not_eq_true _ ▸ hd, by rw [if_neg hd]⟩

/-- One TICK of the drain writes nothing but DRAIN and DRAIN_T (R223). -/
theorem tickDrain_frame (s : State) : ∃ d n, tickDrain s = { s with drain := d, drainT := n } := by
  rcases tickDrain_cases s with ⟨-, h⟩ | ⟨-, -, h⟩ | ⟨-, -, h⟩ <;> exact ⟨_, _, h⟩

/-- A controller written is the controller read; the other stays (R36). -/
@[simp] theorem getFwd_setFwd (k j : Path) (f : Fwd) (s : State) :
    getFwd j (setFwd k f s) = if j = k then f else getFwd j s := by
  cases k <;> cases j <;> rfl

/-- FWD_ENABLE of a controller: on without deadline for t = 0, armed with t otherwise (R220). -/
theorem fwdOn_cases (t : BitVec 24) (f : Fwd) :
    (t = 0 ∧ fwdOn t f = { active := true, armed := false, rem := f.rem }) ∨
    (t ≠ 0 ∧ fwdOn t f = { active := true, armed := true, rem := t }) := by
  by_cases h : t = 0
  · exact .inl ⟨h, by rw [fwdOn, if_pos h]⟩
  · exact .inr ⟨h, by rw [fwdOn, if_neg h]⟩

/-! ### Quiescence -/

/-- A state is quiescent when each internal step misses its condition (R282, R280). -/
theorem quiescent_iff (s : State) :
    quiescent s = true ↔ s.bq = [] ∧ (s.txHas = true ∨ s.pktq = []) ∧ (s.txHas = false ∨ s.txGate = false) ∧
      (s.drain = false ∨ s.txGate = false) ∧ s.rxEdges < 2 := by
  simp only [quiescent, decStepEnabled, txFetchEnabled, txSendEnabled, drainTakeEnabled, rxStepEnabled,
    config_rxEdgesPerSample, Bool.and_eq_true, Bool.not_eq_true', Bool.and_eq_false_iff, Bool.not_eq_false',
    decide_eq_false_iff_not, List.isEmpty_iff, Nat.not_le, and_assoc]

/-- The two places a word still to be given can stand: on the port, or held (R282, log 16). -/
theorem noMoreWords_iff (s : State) : noMoreWords s = true ↔ s.cmdIn = [] ∧ s.held = [] := by
  simp [noMoreWords, List.isEmpty_iff]

/-! ### Fetch -/

/-- The turn the state names first is the present one, and passing it takes it off (log 2). -/
theorem currentTurn_cons (s : State) (t : Turn) (ts : List Turn) (h : s.turns = t :: ts) : currentTurn s = t := by
  simp [currentTurn, h]

/-- Where the state names no turn, the choice is free (R281). -/
theorem currentTurn_nil (s : State) (h : s.turns = []) : currentTurn s = Config.freeTurn s.turnNo := by
  simp [currentTurn, h]

/-- A turn answers an operation, a reserved word or nothing, and takes at most a word off the port or a held operation
(R280). -/
theorem fetchTurn_frame (t : Turn) (s : State) :
    ∃ c h, (fetchTurn t s).2 = { s with cmdIn := c, held := h } ∧ (c = s.cmdIn ∨ c = s.cmdIn.tail) ∧
      (h = s.held ∨ ∃ n, h = s.held.eraseIdx n) := by
  cases t with
  | env =>
    simp only [fetchTurn, fetchWord]
    split
    · exact ⟨_, _, rfl, .inl rfl, .inl rfl⟩
    · rename_i w rest hc
      split <;> exact ⟨_, _, rfl, .inr (by rw [hc]; rfl), .inl rfl⟩
  | held n =>
    simp only [fetchTurn, fetchHeld]
    split
    · exact ⟨_, _, rfl, .inl rfl, .inl rfl⟩
    · split
      · exact ⟨_, _, rfl, .inl rfl, .inr ⟨n, rfl⟩⟩
      · exact ⟨_, _, rfl, .inl rfl, .inl rfl⟩
  | dec => exact ⟨_, _, rfl, .inl rfl, .inl rfl⟩
  | tx => exact ⟨_, _, rfl, .inl rfl, .inl rfl⟩
  | cmd => exact ⟨_, _, rfl, .inl rfl, .inl rfl⟩
  | rx => exact ⟨_, _, rfl, .inl rfl, .inl rfl⟩

/-- A step runs what its turn fetched, or marks a reserved word, or only passes the turn. -/
theorem step_cases (s : State) :
    (∃ i, (fetch s).1 = .run i ∧ step s = exec i (fetch s).2) ∨
    (∃ w, (fetch s).1 = .reserved w ∧ step s = .next (markRefused w (fetch s).2)) ∨
    ((fetch s).1 = .nothing ∧ step s = .next (fetch s).2) := by
  unfold step
  rcases h : fetch s with ⟨f, s1⟩
  cases f with
  | run i => exact .inl ⟨i, rfl, rfl⟩
  | reserved w => exact .inr (.inl ⟨w, rfl, rfl⟩)
  | nothing => exact .inr (.inr ⟨rfl, rfl⟩)

/-- A run of k + 1 steps whose first step answers `t` is a run of k steps from `t`. -/
theorem run_succ_of_next (k : Nat) (s t : State) (h : step s = .next t) :
    Sys2Proof.core.run (k + 1) s = Sys2Proof.core.run k t := by
  have hc : Sys2Proof.core.step s = .next t := h
  simp only [Host.Core.run, hc]

end Sys2Proof.Machine
end

