-- ==== Sys2Proof/Laws/PerInstr.lean ====
section
/-! SUPPORT. What holds of every operation as syntax, one lemma per constructor. -/

namespace Sys2Proof.Laws

/-- The mask and the match of the row of a command word (30_encoding.md R95); none for an operation that is no command
word. -/
def rowPattern : Instr → Option (Word × Word)
  | .byteIn _ => some (0xFFFFFF00, 0x10000000)
  | .setMode _ => some (0xFFFFFFFC, 0x20000000)
  | .inject _ _ _ => some (0xFFFE8080, 0x30000000)
  | .fwdEnable _ _ => some (0xFE000000, 0x40000000)
  | .fwdDisable _ => some (0xFEFFFFFF, 0x50000000)
  | .tick => some (0xFFFFFFFF, 0x60000000)
  | .ackLine _ => some (0xFFFFFFFE, 0x70000000)
  | .rxLines _ => some (0xFFFFFF80, 0x80000000)
  | .frameByte1 _ => none
  | .resyncByte1 _ => none
  | .frameByte2 _ _ => none
  | .decStep => none
  | .txFetch => none
  | .txSend => none
  | .drainTake => none
  | .rxStep => none

/-- The bits of a word's row that an operation's encoding must show: of a command word those of R95, of a byte1 bit 7 as
R81 gives it; a byte2 and an internal step show none. -/
def withinRow (i : Instr) : Prop :=
  match encode i, rowPattern i with
  | .word w, some (mask, pattern) => w &&& mask = pattern
  | .word _, none => False
  | .byte .first b, none => b.getLsbD 7 = true ↔ ∃ y, i = .frameByte1 y
  | .byte .second _, none => ∃ p x, i = .frameByte2 p x
  | .byte _ _, some _ => False
  | .internal, none => i.opClass = .internal
  | .internal, some _ => False

namespace EncodesWithinRow

/-- The encoding of the operation selects its own row of the table (R95, R81, R98). -/
def Statement (i : Instr) : Prop :=
  withinRow i

theorem byteIn (b : Byte) : Statement (.byteIn b) := by
  show (0x10000000#32 ||| b.setWidth 32) &&& 0xFFFFFF00 = 0x10000000
  revert b; decide

theorem setMode (m : Mode) : Statement (.setMode m) := by
  cases m <;> rfl

theorem inject (x y : Coord) (p : Polarity) : Statement (.inject x y p) := by
  show (0x30000000#32 ||| (p.setWidth 32 <<< 16) ||| (y.setWidth 32 <<< 8) ||| x.setWidth 32) &&& 0xFFFE8080#32
    = 0x30000000#32
  apply BitVec.eq_of_getLsbD_eq
  intro k hk
  simp only [BitVec.getLsbD_and, BitVec.getLsbD_or, BitVec.getLsbD_shiftLeft, BitVec.getLsbD_setWidth]
  interval_cases k <;> simp

theorem fwdEnable (k : Path) (t : BitVec 24) : Statement (.fwdEnable k t) := by
  show (0x40000000#32 ||| (k.code.setWidth 32 <<< 24) ||| t.setWidth 32) &&& 0xFE000000#32 = 0x40000000#32
  apply BitVec.eq_of_getLsbD_eq
  intro j hj
  simp only [BitVec.getLsbD_and, BitVec.getLsbD_or, BitVec.getLsbD_shiftLeft, BitVec.getLsbD_setWidth]
  interval_cases j <;> simp

theorem fwdDisable (k : Path) : Statement (.fwdDisable k) := by
  cases k <;> rfl

theorem tick : Statement .tick := rfl

theorem ackLine (v : Bool) : Statement (.ackLine v) := by
  cases v <;> rfl

theorem rxLines (v : Symbol) : Statement (.rxLines v) := by
  show (0x80000000#32 ||| v.setWidth 32) &&& 0xFFFFFF80 = 0x80000000
  revert v; decide

theorem frameByte1 (y : Coord) : Statement (.frameByte1 y) := by
  show (0x80#8 ||| y.setWidth 8).getLsbD 7 = true ↔ ∃ z, Instr.frameByte1 y = .frameByte1 z
  exact ⟨fun _ => ⟨y, rfl⟩, fun _ => by simp⟩

theorem resyncByte1 (b : BitVec 7) : Statement (.resyncByte1 b) := by
  show (b.setWidth 8).getLsbD 7 = true ↔ ∃ z, Instr.resyncByte1 b = .frameByte1 z
  simp

theorem frameByte2 (p : Polarity) (x : Coord) : Statement (.frameByte2 p x) :=
  ⟨p, x, rfl⟩

theorem decStep : Statement .decStep := rfl

theorem txFetch : Statement .txFetch := rfl

theorem txSend : Statement .txSend := rfl

theorem drainTake : Statement .drainTake := rfl

theorem rxStep : Statement .rxStep := rfl

end EncodesWithinRow

end Sys2Proof.Laws
end

