-- ==== Sys2Proof/Tests/Slice0.lean ====
section
/-! SUPPORT. Tests. Expected values are the vectors of 95_test_vectors.md (worked by hand there from the rules; each test
names its row) or the layouts of 30_encoding.md. A test whose name begins `witness_` shows that the premises of the
obligation it names can be met, each clause at a boundary of its range. -/

namespace Sys2Proof.Tests

open Sys2Proof.Machine Sys2Proof.Safety

/-! ### The example instantiation EXI (95_test_vectors.md section 0) -/

/-- EXI, its packing table cut to the points the tests use. -/
def exiParams : Params where
  weight := 2
  sym := #v[0x11, 0x12, 0x14, 0x18, 0x21, 0x22, 0x24, 0x28, 0x41, 0x42, 0x44, 0x48, 0x03, 0x0C, 0x30, 0x50, 0x60]
  hdr := #v[0x11, 0x12]
  addrSrc := #v[0x01, 0x02, 0x03, 0x04]
  addrSym := #v[0x12, 0x14, 0x18, 0x21]
  pack := [⟨.full, 5, 5, 0x0285⟩, ⟨.full, 2, 1, 0x0082⟩, ⟨.full, 127, 127, 0x3FFF⟩, ⟨.half, 2, 3, 0x00C2⟩,
    ⟨.eighth, 15, 15, 0x00FF⟩]
  term := 0x0A
  byteQCap := 4
  pktQCap := 2
  rxCap := 16
  rxFullAction := .discard
  clearOnSameMode := false

theorem exi_ok : exiParams.wf = true := by decide

/-- The instantiation EXI. -/
def exi : Cfg := { params := exiParams, ok := exi_ok }

/-- EXI right after reset, with a short slot array where a test writes slots. -/
def base : State := State.powerOn exi

/-- The next state of a step, or the state before it. -/
def next (o : Host.Outcome State Fault Refusal) (s : State) : State :=
  match o with
  | .next t => t
  | .fault _ => s
  | .refused _ => s

/-- A state in mode `m` whose slot array is `l`, filled up to `h`. -/
def aggState (m : Mode) (l : List Slot) (h : Nat) : State :=
  { base with mode := m, slots := l, hwm := h }

/-- An occupied slot. -/
def occ (x y : Coord) (p : Polarity) : Slot :=
  { occ := true, x, y, p }

/-- The packet of vector E2, payload 0x8082. -/
def pktE2 : Packet := #v[0x12, 0x11, 0x14, 0x41, 0x11, 0x41, 0x21, 0x18, 0x14, 0x12, 0x60]

/-- The packet of vector E1, payload 0xC285. -/
def pktE1 : Packet := #v[0x11, 0x11, 0x22, 0x41, 0x14, 0x03, 0x21, 0x18, 0x14, 0x12, 0x60]

/-! ### Well-formedness: an ill-formed parameter set for each check, and only that check broken -/

theorem smoke_weight : ({ exiParams with weight := 4 } : Params).weightOk = false := by decide
theorem smoke_symWeight :
    ({ exiParams with sym := exiParams.sym.set 0 0x13 } : Params).symWeightOk = false := by decide
theorem smoke_symDistinct :
    ({ exiParams with sym := exiParams.sym.set 0 0x12 } : Params).symDistinct = false := by decide
theorem smoke_hdrDistinct : ({ exiParams with hdr := #v[0x11, 0x11] } : Params).hdrDistinct = false := by decide
theorem smoke_term : ({ exiParams with term := 0x20 } : Params).termOk = false := by decide
theorem smoke_byteQCap : ({ exiParams with byteQCap := 0 } : Params).capsOk = false := by decide
theorem smoke_pktQCap : ({ exiParams with pktQCap := 0 } : Params).capsOk = false := by decide
theorem smoke_rxCap : ({ exiParams with rxCap := 0 } : Params).capsOk = false := by decide
theorem smoke_refused : instantiate { exiParams with term := 0x20 } = .refused .badParameters := rfl

/-! ### Decoding: words written out bit by bit from R95 and R81 -/

theorem decode_byteIn :
    decodeWord 0b0001_0000_0000_0000_0000_0000_0101_0101 = some (.byteIn 0x55) := by decide
theorem decode_setMode :
    decodeWord 0b0010_0000_0000_0000_0000_0000_0000_0011 = some (.setMode .eighth) := by decide
theorem decode_inject :
    decodeWord 0b0011_0000_0000_0001_0000_0110_0000_0100 = some (.inject 4 6 1) := by decide
theorem decode_fwdEnable_W5 :
    decodeWord 0b0100_0001_0000_0000_0000_0000_0000_0101 = some (.fwdEnable .L 5) := by decide
theorem decode_fwdDisable_W6 :
    decodeWord 0b0101_0001_0000_0000_0000_0000_0000_0000 = some (.fwdDisable .L) := by decide
theorem decode_tick : decodeWord 0b0110_0000_0000_0000_0000_0000_0000_0000 = some .tick := by decide
theorem decode_ackLine :
    decodeWord 0b0111_0000_0000_0000_0000_0000_0000_0001 = some (.ackLine true) := by decide
theorem decode_rxLines_W9 :
    decodeWord 0b1000_0000_0000_0000_0000_0000_0111_1111 = some (.rxLines 0x7F) := by decide
theorem decode_frameByte1 : decode (.byte .first 0b1000_0001) = some (.frameByte1 1) := by decide
theorem decode_resyncByte1 : decode (.byte .first 0b0101_0101) = some (.resyncByte1 0x55) := by decide
theorem decode_frameByte2 : decode (.byte .second 0b1000_0010) = some (.frameByte2 1 2) := by decide
theorem decode_internal : decode .internal = none := by decide

/-- W1 to W4, W7, W8, W10, W11 of 95_test_vectors.md section 2.7. -/
theorem decode_reserved :
    ([0x00000000, 0x20000004, 0x90000000, 0x30008000, 0x52000000, 0x7000000F, 0x800000FF, 0x60000001] : List Word).map
      decodeWord = [none, none, none, none, none, none, none, none] := by decide

theorem decode_table_widths :
    decodeTableWord 32 0x30010604 = some (.inject 4 6 1) ∧ decodeTableWord 8 0x81 = some (.frameByte1 1) ∧
    decodeTableWord 16 0x81 = none := by decide

/-! ### Encoder (E1, E2, E4, E5, E7) -/

theorem test_packet_E1 : packetOf exiParams (payload exiParams .full ⟨5, 5, 1⟩) = pktE1 := by decide
theorem test_packet_E2 : packetOf exiParams (payload exiParams .full ⟨2, 1, 0⟩) = pktE2 := by decide
theorem test_payload_E4 : payload exiParams .full ⟨127, 127, 1⟩ = 0xFFFF := by decide
theorem test_payload_E5 : payload exiParams .half ⟨4, 6, 1⟩ = 0xC0C2 := by decide
theorem test_parity_E7 :
    payload exiParams .eighth ⟨120, 120, 1⟩ = 0xC0FF ∧ parity exiParams 0xC0FF = 0 := by decide

/-! ### One step of each operation -/

/-- Section 2.1, byte queue overflow. -/
theorem test_byteIn_full :
    (next (exec (.byteIn 5) { base with bq := [1, 2, 3, 4] }) base).bq = [1, 2, 3, 4] := by decide
theorem test_byteIn : (next (exec (.byteIn 0x81) base) base).bq = [0x81] := by decide

/-- R140's example. -/
theorem test_setMode_clears :
    let t := next (exec (.setMode .quarter) (aggState .half [occ 4 6 1, Slot.free] 1)) base
    t.mode = .quarter ∧ t.slots.map (·.occ) = [false, false] ∧ t.hwm = 0 := by decide
/-- A16. -/
theorem test_setMode_same :
    let t := next (exec (.setMode .half) (aggState .half [occ 4 6 1] 1)) base
    t.slots = [occ 4 6 1] ∧ t.hwm = 1 := by decide

/-- P2: the third event completes the block and frees slots 0 and 2; E5's packet. -/
theorem test_inject_emits_P2 :
    let t := next (exec (.inject 5 7 1) (aggState .half [occ 4 6 1, occ 9 9 0, Slot.free] 2)) base
    t.slots.map (·.occ) = [false, true, false] ∧ t.hwm = 2 ∧
    t.pktq = [#v[0x12, 0x11, 0x14, 0x03, 0x11, 0x03, 0x21, 0x18, 0x14, 0x12, 0x60]] := by decide
/-- A11: the hole is reused and HWM does not move. -/
theorem test_inject_hole_A11 :
    let t := next (exec (.inject 40 40 0) (aggState .half [Slot.free, occ 20 20 1, Slot.free] 2)) base
    t.slots = [occ 40 40 0, occ 20 20 1, Slot.free] ∧ t.hwm = 2 ∧ t.pktq = [] := by decide

/-- Section 1.7: `FWD_ENABLE S, 50`. -/
theorem test_fwdEnable_S :
    let t := next (exec (.fwdEnable .S 50) base) base
    t.fwdS = { active := true, armed := true, rem := 50 } ∧ t.txGate = true := by decide
/-- F13: t = 0 disarms; path L leaves the gate. -/
theorem test_fwdEnable_disarms :
    let t := next (exec (.fwdEnable .L 0) { base with fwdL := { active := true, armed := true, rem := 5 } }) base
    t.fwdL.active = true ∧ t.fwdL.armed = false ∧ t.txGate = false := by decide

/-- F5. -/
theorem test_fwdDisable_drains_F5 :
    let t := next (exec (.fwdDisable .S) base) base
    t.drain = true ∧ t.drainT = 100 ∧ t.txGate = false := by decide
/-- F3. -/
theorem test_fwdDisable_takes_F3 :
    let t := next (exec (.fwdDisable .S) { base with txGate := true }) base
    t.txGate = false ∧ t.drain = false := by decide

/-- R223's example, and F14: the other timer goes on. -/
theorem test_tick_expires :
    let t := next (exec .tick { base with
      fwdS := { active := true, armed := true, rem := 1 }, fwdL := { active := true, armed := true, rem := 3 } }) base
    t.fwdS = { active := false, armed := false, rem := 0 } ∧
    t.fwdL = { active := true, armed := true, rem := 2 } := by decide
/-- F9. -/
theorem test_tick_ends_drain_F9 :
    let t := next (exec .tick { base with drain := true, drainT := 1 }) base
    t.drain = false ∧ t.drainT = 0 ∧ t.txGate = false := by decide

/-- R193's example. -/
theorem test_ackLine_edge :
    let t := next (exec (.ackLine true) base) base
    t.ackIn = true ∧ t.txGate = true := by decide
/-- R193 corner case 4. -/
theorem test_ackLine_level : (next (exec (.ackLine false) base) base).txGate = false := by decide

/-- X10 and X12: lines 0 and 4 change, and change back. -/
theorem test_rxLines_X10 : (next (exec (.rxLines 0x11) base) base).rxEdges = 2 := by decide
theorem test_rxLines_X12 :
    (next (exec (.rxLines 0x00) { base with rxLines := 0x11, rxEdges := 2 }) base).rxEdges = 4 := by decide

/-- Section 1.1, steps 1 and 2. -/
theorem test_frameByte1_resyncs :
    let t := next (exec (.frameByte1 1) { base with dwl := true, dw0 := 0x55 }) base
    t.dw0 = 0x81 ∧ t.dwl = true ∧ t.pktq = [] := by decide
theorem test_resyncByte1 :
    let t := next (exec (.resyncByte1 0x55) base) base
    t.dw0 = 0x55 ∧ t.dwl = true := by decide
/-- Section 1.1, step 3: the event {2, 1, 0}, packet E2. -/
theorem test_frameByte2_event :
    let t := next (exec (.frameByte2 0 2) { base with dwl := true, dw0 := 0x81 }) base
    t.dwl = false ∧ t.pktq = [pktE2] := by decide

/-- Section 1.1 through the queue. -/
theorem test_decStep_event :
    let t := next (exec .decStep { base with bq := [0x02, 0x33], dwl := true, dw0 := 0x81 }) base
    t.bq = [0x33] ∧ t.dwl = false ∧ t.pktq = [pktE2] := by decide
/-- R303: the decoder keeps running while DRAIN = 1, and its event completes the block (A3). -/
theorem test_decStep_draining :
    let t := next (exec .decStep { aggState .half [occ 4 6 1, Slot.free] 1 with
      bq := [0x85], dwl := true, dw0 := 0x87, drain := true, drainT := 100 }) base
    t.slots.map (·.occ) = [false, false] ∧ t.hwm = 0 ∧ t.pktq.length = 1 ∧ t.drain = true := by decide

/-- R190's example. -/
theorem test_txFetch :
    let t := next (exec .txFetch { base with pktq := [pktE2, pktE1] }) base
    t.txPkt = pktE2 ∧ t.txIdx = 0 ∧ t.txHas = true ∧ t.pktq = [pktE1] := by decide
/-- T5: not enabled while a packet is held. -/
theorem test_txFetch_busy :
    (next (exec .txFetch { base with pktq := [pktE1], txHas := true, txPkt := pktE2 }) base).pktq = [pktE1] := by decide

/-- T1, the second symbol: 0x12 ^ 0x11. -/
theorem test_txSend_bus_T1 :
    let t := next (exec .txSend { base with
      txHas := true, txPkt := pktE2, txIdx := 1, txGate := true, txOut := 0x12, txTrace := [0x12] }) base
    t.txOut = 0x03 ∧ t.txTrace = [0x12, 0x03] ∧ t.txGate = false ∧ t.txIdx = 2 := by decide
/-- F1, the eleventh symbol: its byte, then the terminator. -/
theorem test_txSend_host_F1 :
    let t := next (exec .txSend { base with
      txHas := true, txPkt := pktE2, txIdx := 10, txFcnt := 10, txGate := true,
      fwdS := { active := true, armed := false, rem := 0 } }) base
    t.hostOut = [0x60, 0x0A] ∧ t.txFcnt = 0 ∧ t.txHas = false ∧ t.txGate = true ∧ t.txOut = 0 := by decide

/-- F7. -/
theorem test_drainTake_F7 :
    let t := next (exec .drainTake { base with drain := true, drainT := 100, txGate := true }) base
    t.txGate = false ∧ t.drain = false ∧ t.drainT = 0 := by decide
theorem test_drainTake_waits :
    (next (exec .drainTake { base with drain := true, drainT := 100 }) base).drain = true := by decide

/-- A receiver that has taken `l` so far, its next sample being `v`. -/
def rxState (l : List Symbol) (prev v : Symbol) : State :=
  { base with rxBuf := l ++ List.replicate (16 - l.length) 0, rxLen := l.length, rxPrev := prev, rxLines := v, rxEdges := 2 }

/-- X1, the last symbol of PK: the value goes to LOCAL_OUT. -/
theorem test_rxStep_eop_X1 :
    let t := next (exec .rxStep
      (rxState [0x12, 0x11, 0x14, 0x41, 0x11, 0x41, 0x21, 0x18, 0x14, 0x12] 0x39 0x59)) base
    t.localOut = [0x8082] ∧ t.rxLen = 0 ∧ t.rxPrev = 0x59 ∧ t.rxEdges = 0 ∧ t.rxAck = true := by decide
/-- X4: EOP at position 5 is a miss. -/
theorem test_rxStep_miss_X4 :
    let t := next (exec .rxStep (rxState [0x12, 0x11, 0x14, 0x41, 0x11] 0x47 0x27)) base
    t.localOut = [] ∧ t.hostOut = [] ∧ t.rxLen = 0 ∧ t.rxAck = true := by decide

/-! ### The step -/

/-- P4: a reserved word leaves a mark; the run goes on with the next word. -/
theorem test_step_reserved :
    let t := next (step { base with turns := [.env, .env], cmdIn := [0x20000004, 0x70000001] }) base
    t.refusals = [0x20000004] ∧ t.mode = .full ∧ (next (step t) base).ackIn = true := by decide
/-- F6, P4: a class C word is held while DRAIN = 1, and applied on its turn afterwards. -/
theorem test_step_held :
    let t := next (step { base with drain := true, drainT := 1, turns := [.env, .held 0], cmdIn := [0x20000001] }) base
    t.mode = .full ∧ t.held = [.setMode .half] ∧
    (next (step { t with drain := false }) base).mode = .half := by decide
theorem test_step_withFetchWord :
    (next (step (base.withFetchWord 32 0x70000001)) base).ackIn = true ∧
    (next (step (base.withFetchWord 8 0x55)) base).dw0 = 0x55 := by decide

/-! ### The premises of the obligations can be met -/

theorem witness_EncodingDecodesToItself :
    encode (.byteIn 0xFF) ≠ .internal ∧ encode (.fwdEnable .L 0xFFFFFF) ≠ .internal ∧
    encode (.frameByte2 1 127) ≠ .internal ∧ encode .rxStep = .internal := by decide
theorem witness_DecodedWordIsItsEncoding : decodeWord 0x41FFFFFF = some (.fwdEnable .L 0xFFFFFF) := by decide
theorem witness_ReservedWordRefusedStateUnchanged :
    let s : State := { base with turns := [.env], cmdIn := [0x90000000, 0x60000000] }
    currentTurn s = .env ∧ s.cmdIn = 0x90000000 :: [0x60000000] ∧ ReservedWord 0x90000000 ∧
    ReservedWord 0x0FFFFFFF ∧ ReservedWord 0xF0000000 ∧ ReservedWord 0x60000001 ∧ ¬ ReservedWord 0x8000007F := by
  unfold ReservedWord
  decide
theorem witness_InputByteClassifiedByBitSeven :
    (0x80 : Byte).getLsbD 7 = true ∧ (0x7F : Byte).getLsbD 7 = false := by decide
theorem witness_TurnIsNamedOrFree :
    ({ base with turns := [.rx] } : State).turns = .rx :: [] ∧ base.turns = [] := by decide
theorem witness_StepRunsDecodedWord :
    let s (c : List Word) : State := { base with turns := [.env], cmdIn := c }
    (currentTurn (s [0x60000000]) = .env ∧ (s [0x60000000]).cmdIn = 0x60000000 :: [] ∧
      decodeWord 0x60000000 = some .tick) ∧
    currentTurn (s []) = .env ∧ (s []).cmdIn = [] := by decide
theorem witness_StepRunsInternalStepOfAgent :
    let s (t : Turn) (has : Bool) : State := { base with turns := [t], txHas := has }
    currentTurn (s .dec false) = .dec ∧
    (currentTurn (s .tx false) = .tx ∧ (s .tx false).txHas = false) ∧
    (currentTurn (s .tx true) = .tx ∧ (s .tx true).txHas = true) ∧
    currentTurn (s .cmd false) = .cmd ∧ currentTurn (s .rx false) = .rx := by decide
/-- The last held operation, the first number that holds nothing, and DRAIN = 1. -/
theorem witness_HeldOperationWaitsForDrain :
    let s (n : Nat) (d : Bool) : State :=
      { base with turns := [.held n], held := [.setMode .half, .setMode .eighth], drain := d }
    (currentTurn (s 1 false) = .held 1 ∧ (s 1 false).held[1]? = some (.setMode .eighth) ∧ (s 1 false).drain = false) ∧
    (currentTurn (s 2 false) = .held 2 ∧ (s 2 false).held[2]? = none) ∧
    (currentTurn (s 0 true) = .held 0 ∧ (s 0 true).drain = true) := by decide
theorem witness_DisabledInternalStepDoesNothing :
    base.bq = [] ∧ ({ base with txHas := true } : State).txHas = true ∧ base.pktq = [] ∧ base.txHas = false ∧
    base.txGate = false ∧ base.drain = false ∧ ({ base with rxEdges := 1 } : State).rxEdges < 2 := by decide
theorem witness_BadParametersRefused :
    ParamsOk exiParams ∧ ¬ ParamsOk { exiParams with rxCap := 0 } := by
  refine ⟨⟨by decide, by decide, by decide, by decide, by decide, by decide, by decide, by decide⟩, ?_⟩
  intro h
  exact absurd h.rxCap (by decide)
theorem witness_ByteInAppendsOrDropsByte :
    ({ base with bq := [1, 2, 3] } : State).bq.length < base.prm.byteQCap ∧
    base.prm.byteQCap ≤ ({ base with bq := [1, 2, 3, 4] } : State).bq.length := by decide
theorem witness_WindowRuleForEveryByte :
    (∃ y, Instr.frameByte1 127 = .frameByte1 y ∧ (0xFF : Byte) = 0x80#8 ||| y.setWidth 8) ∧
    (∃ z, Instr.resyncByte1 127 = .resyncByte1 z ∧ (0x7F : Byte) = z.setWidth 8) ∧
    (∃ p x, Instr.frameByte2 1 127 = .frameByte2 p x ∧ (0xFF : Byte) = (p.setWidth 8 <<< 7) ||| x.setWidth 8) ∧
    base.dwl = false ∧ ({ base with dwl := true, dw0 := 0x7F } : State).dw0.getLsbD 7 = false ∧
    (let s : State := { base with dwl := true, dw0 := 0x80 }; s.dwl = true ∧ s.dw0.getLsbD 7 = true) :=
  ⟨⟨127, rfl, rfl⟩, ⟨127, rfl, rfl⟩, ⟨1, 127, rfl, rfl⟩, rfl, rfl, rfl, rfl⟩
theorem witness_DecStepPopsByteIntoWindow :
    let s (l : Bool) (d : Byte) : State := { base with bq := [0xFF], dwl := l, dw0 := d }
    (s false 0).bq = 0xFF :: [] ∧ (s false 0).dwl = false ∧
    ((s true 0x7F).bq = 0xFF :: [] ∧ (s true 0x7F).dw0.getLsbD 7 = false) ∧
    (s true 0x80).bq = 0xFF :: [] ∧ (s true 0x80).dwl = true ∧ (s true 0x80).dw0.getLsbD 7 = true := by decide
theorem witness_DecStepRunsBytePattern : ({ base with bq := [0x80] } : State).bq = 0x80 :: [] := by decide
theorem witness_LeadingBytesResynchronise :
    let cs : List Byte := [0x00, 0x7F]
    let s : State := { base with bq := [0x00, 0x7F, 0xFF, 0xFF, 0x01] }
    s.dwl = false ∧ (∀ c ∈ cs, c.getLsbD 7 = false) ∧
    s.bq = cs ++ [0x80#8 ||| (127 : Coord).setWidth 8, ((1 : Polarity).setWidth 8 <<< 7) ||| (127 : Coord).setWidth 8] ++
      [0x01] := by decide
/-- EXI with P_CLEAR_ON_SAME_MODE = true, as A17 uses it. -/
def exiClear : Cfg := { params := { exiParams with clearOnSameMode := true }, ok := by decide }

theorem witness_SetModeClearsSlots :
    base.drain = false ∧ Mode.half ≠ base.mode ∧ ({ base with cfg := exiClear } : State).prm.clearOnSameMode = true ∧
    Mode.full = base.mode ∧ base.prm.clearOnSameMode = false := by decide
theorem witness_InjectEntersAggregatorInput : base.drain = false := by decide
theorem witness_InjectAtFullQueuesPacket :
    base.mode = .full ∧ base.drain = false ∧
    ({ base with pktq := [pktE1] } : State).pktq.length ≠ base.prm.pktQCap ∧
    ({ base with pktq := [pktE1, pktE2] } : State).pktq.length = base.prm.pktQCap := by decide
theorem witness_InjectDroppedWhenSaturated :
    let s := aggState .half [occ 4 6 1, occ 9 9 0] 2
    s.mode ≠ .full ∧ Saturated s ∧ s.drain = false := by
  unfold Saturated; decide
/-- At Half, the first event of its block: 1 < 2. -/
theorem witness_InjectBuffersBelowThreshold :
    let s := aggState .half [occ 4 6 1, Slot.free] 1
    s.mode ≠ .full ∧ s.drain = false ∧ 1 < s.slots.length ∧ (slotAt s 1).occ = false ∧
    (∀ j < 1, (slotAt s j).occ = true) ∧
    (contributors 2 { x := 6, y := 6, p := 1 } (max s.hwm 2) (s.slots.set 1 (occ 6 6 1)) fun _ => true).length
      < 2 * 2 / 2 := by decide
/-- At Half, the second event of its block: 2 ≥ 2. -/
theorem witness_InjectEmitsAtThreshold :
    let s := aggState .half [occ 4 6 1, Slot.free] 1
    s.mode ≠ .full ∧ s.drain = false ∧ 1 < s.slots.length ∧ (slotAt s 1).occ = false ∧
    (∀ j < 1, (slotAt s j).occ = true) ∧
    2 * 2 / 2 =
      (contributors 2 { x := 5, y := 7, p := 1 } (max s.hwm 2) (s.slots.set 1 (occ 5 7 1)) fun _ => true).length := by
  decide

/-- Every slot of a list padded with free slots to any length is what the list says, or free. -/
theorem getD_pad (l : List Slot) (n j : Nat) :
    (l ++ List.replicate n Slot.free).getD j Slot.free = l.getD j Slot.free := by
  simp only [List.getD, List.getElem?_append, List.getElem?_replicate]
  split
  · rfl
  · split <;> simp_all

/-- One buffered event in the full-size slot array at Half. -/
def halfState : State := aggState .half ([occ 4 6 1] ++ List.replicate 499 Slot.free) 1

theorem halfState_slotAt (j : Nat) : slotAt halfState j = [occ 4 6 1].getD j Slot.free :=
  getD_pad _ _ _

theorem witness_TallyBelowMarkCountsEverySlot : SlotsWf halfState where
  length := by
    show ([occ 4 6 1] ++ List.replicate 499 Slot.free).length = 500
    rw [List.length_append, List.length_replicate]
    rfl
  above := by
    intro j hj
    obtain ⟨k, rfl⟩ := Nat.exists_eq_add_of_le' (show 1 ≤ j from hj)
    rw [halfState_slotAt]
    rfl
  top := by
    right
    rw [halfState_slotAt]
    rfl
  full := by
    intro h
    cases h
theorem witness_SaturationSticksUntilSetMode :
    let s := aggState .half [occ 4 6 1] 1
    s.mode ≠ .full ∧ Saturated s ∧ (∀ m, Instr.inject 4 6 1 ≠ .setMode m) ∧ exec (.inject 4 6 1) s = .next s :=
  ⟨by decide, by unfold Saturated; decide, by simp, rfl⟩
theorem witness_OccupancyGrowsByAtMostOne :
    exec (.inject 4 6 1) (aggState .half [Slot.free] 0) = .next (aggState .half [occ 4 6 1] 1) := rfl
theorem witness_ModeWrittenOnlyBySetMode :
    (∀ m, Instr.tick ≠ .setMode m) ∧ exec .tick base = .next base := ⟨by simp, rfl⟩
theorem witness_PackReadsOnlyUpperBits :
    (∀ k, Mode.half.code.toNat ≤ k → (4 : Coord).getLsbD k = (5 : Coord).getLsbD k) ∧
    (∀ k, Mode.half.code.toNat ≤ k → (6 : Coord).getLsbD k = (7 : Coord).getLsbD k) := by
  have key : ∀ k, 1 ≤ k → ((4 : Coord).getLsbD k = (5 : Coord).getLsbD k) ∧
      ((6 : Coord).getLsbD k = (7 : Coord).getLsbD k) := by
    intro k hk
    rcases Nat.lt_or_ge k 7 with h | h
    · interval_cases k <;> decide
    · simp [BitVec.getLsbD_of_ge, h]
  exact ⟨fun k hk => (key k hk).1, fun k hk => (key k hk).2⟩
/-- A packing that reads x[6], which every mode keeps. -/
theorem witness_EveryPackingHasTable :
    let f : Mode → Coord → Coord → Payload := fun _ x _ => if x.getLsbD 6 then 1 else 0
    ∀ m x y x' y', (∀ k, m.code.toNat ≤ k → x.getLsbD k = x'.getLsbD k) →
      (∀ k, m.code.toNat ≤ k → y.getLsbD k = y'.getLsbD k) → f m x y = f m x' y' := by
  intro f m x y x' y' hx _
  have h6 : m.code.toNat ≤ 6 := by cases m <;> decide
  simp only [f, hx 6 h6]
theorem witness_TxFetchTakesHeadPacket :
    base.txHas = false ∧ ({ base with pktq := [pktE1] } : State).pktq = pktE1 :: [] := by decide

/-- The transmitter at index `i` of packet E2, the gate released. -/
def txState (i : Fin 11) (fwd : Bool) : State :=
  { base with txHas := true, txPkt := pktE2, txIdx := i, txGate := true
              fwdS := { active := fwd, armed := false, rem := 0 } }

theorem witness_TxSendSendsNextSymbol :
    let s : State := { txState 10 true with txFcnt := 10 }
    (s.txHas = true ∧ s.txGate = true ∧ s.fwdS.active = true ∧ s.txFcnt = 10 ∧ s.txIdx = 10) ∧
    ((txState 10 false).txHas = true ∧ (txState 10 false).txGate = true ∧ (txState 10 false).fwdS.active = false ∧
      (txState 10 false).txIdx = 10 ∧ (txState 9 false).txIdx ≠ 10) := by decide
theorem witness_AckLineEdgeReleasesGate : true ≠ base.ackIn ∧ false = base.ackIn := by decide
theorem witness_DrainTakeTakesGate :
    let s : State := { base with drain := true, drainT := 1, txGate := true }
    s.drain = true ∧ s.txGate = true := by decide
theorem witness_TakenGateReleasedOnlyByAckOrEnable :
    base.txGate = false ∧ exec (.ackLine true) base = .next { base with ackIn := true, txGate := true } := ⟨rfl, rfl⟩
theorem witness_TransitionCodingRoundTrip :
    (txState 0 false).txHas = true ∧ (txState 0 false).fwdS.active = false ∧ (txState 0 false).txIdx.val + 11 ≤ 11 ∧
    (txState 10 false).txIdx.val + 1 ≤ 11 ∧
    ((txState 10 false).txPkt.toList.drop 10).take 1 = 0x60 :: [] := by decide
theorem witness_FwdEnableSetsController : base.drain = false := by decide
theorem witness_FwdDisableClearsController :
    base.drain = false ∧ base.txGate = false ∧ ({ base with txGate := true } : State).txGate = true := by decide
theorem witness_TimerExpiresOnLastTick :
    base.drain = false ∧ (0xFFFFFF : BitVec 24) ≠ 0 ∧ (1 : BitVec 24).toNat ≤ 1 := by decide
theorem witness_DrainWaitEndsOnHundredthTick : base.drain = false ∧ base.txGate = false := by decide
theorem witness_CommandHeldWhileDraining :
    let s : State := { base with drain := true, drainT := 100 }
    (Instr.inject 1 1 1).opClass = .command ∧ s.drain = true ∧ (Instr.byteIn 1).opClass = .interrupt ∧
    exec (.byteIn 1) s = .next { s with bq := [1] } := ⟨rfl, rfl, rfl, rfl⟩
/-- The symbol before the last place of the buffer. -/
theorem witness_RxStepRecoversSymbol :
    let s := rxState (List.replicate 14 0x11) 0 0x11
    2 ≤ s.rxEdges ∧ s.rxLines ^^^ s.rxPrev ≠ eop s.prm ∧ s.rxLen + 1 ≠ s.prm.rxCap := by decide

/-- EXI with P_RX_FULL_ACTION = decode, as X9 uses it. -/
def exiDecode : Cfg := { params := { exiParams with rxFullAction := .decode }, ok := by decide }

/-- Each way a frame ends: full and discarded (X8), short (length 5), each of the four positions a miss; delivered by an EOP
that is the sixth symbol from the value's last position on, and by a full buffer that is decoded (X9). -/
theorem witness_RxStepEndsFrame :
    let full := rxState (pktE2.toList.take 10 ++ List.replicate 5 0x11) 0 0x11
    let short := rxState [0x12, 0x11, 0x14, 0x41] 0 0x60
    let miss (k : Nat) := rxState ((pktE2.toList.take 10).set k 0x05) 0 0x60
    let good := rxState (pktE2.toList.take 6) 0 0x60
    let n (s : State) (k : Nat) := lookup s.prm ((s.rxBuf.set s.rxLen (s.rxLines ^^^ s.rxPrev)).getD k 0)
    (2 ≤ full.rxEdges ∧ full.rxLen + 1 = full.prm.rxCap ∧ full.rxLines ^^^ full.rxPrev ≠ eop full.prm ∧
      full.prm.rxFullAction = .discard) ∧
    (short.rxLines ^^^ short.rxPrev = eop short.prm ∧ short.rxLen + 1 < 6) ∧
    (n (miss 2) 2 = none ∧ n (miss 3) 3 = none ∧ n (miss 4) 4 = none ∧ n (miss 5) 5 = none) ∧
    (good.rxLines ^^^ good.rxPrev = eop good.prm ∧ 6 ≤ good.rxLen + 1 ∧ n good 2 = some 2 ∧ n good 3 = some 8 ∧
      n good 4 = some 0 ∧ n good 5 = some 8 ∧ good.fwdL.active = false) ∧
    ({ full with cfg := exiDecode } : State).prm.rxFullAction = .decode := by decide

/-- The packet of payload 0xC285 waiting to be sent, header and address symbols of two set bits and none EOP. -/
def loopState : State := { base with txHas := true, txPkt := pktE1 }

theorem witness_LoopbackDeliversPayload :
    loopState.prm.weight = 2 ∧ 11 ≤ loopState.prm.rxCap ∧ loopState.rxBuf.length = loopState.prm.rxCap ∧
    (∀ k : Fin 2, loopState.prm.hdr[k] ≠ eop loopState.prm ∧ 2 ≤ popcount loopState.prm.hdr[k]) ∧
    (∀ k : Fin 4, loopState.prm.addrSym[k] ≠ eop loopState.prm ∧ 2 ≤ popcount loopState.prm.addrSym[k]) ∧
    loopState.txHas = true ∧ loopState.txIdx = 0 ∧ loopState.txPkt = packetOf loopState.prm 0xC285 ∧
    loopState.fwdS.active = false ∧ loopState.rxPrev = loopState.txOut ∧ loopState.rxLines = loopState.txOut ∧
    loopState.rxLen = 0 ∧ loopState.fwdL.active = false := by decide
/-- The same with path L forwarding: the premises do not speak of it. -/
theorem witness_LoopbackDeliversPayload_forwarding :
    let s : State := { loopState with fwdL := { active := true, armed := false, rem := 0 } }
    s.prm.weight = 2 ∧ 11 ≤ s.prm.rxCap ∧ s.rxBuf.length = s.prm.rxCap ∧
    (∀ k : Fin 2, s.prm.hdr[k] ≠ eop s.prm ∧ 2 ≤ popcount s.prm.hdr[k]) ∧
    (∀ k : Fin 4, s.prm.addrSym[k] ≠ eop s.prm ∧ 2 ≤ popcount s.prm.addrSym[k]) ∧
    s.txHas = true ∧ s.txIdx = 0 ∧ s.txPkt = packetOf s.prm 0xC285 ∧ s.fwdS.active = false ∧
    s.rxPrev = s.txOut ∧ s.rxLines = s.txOut ∧ s.rxLen = 0 ∧ s.fwdL.active = true := by decide
theorem witness_ParametersNeverChange :
    step { base with turns := [.rx] } = .next { base with turnNo := 1 } := rfl

/-- A state of the invariant that is not reset: a buffered event at Half, the decoder's turn. -/
def invState : State := { halfState with turns := [.dec], bq := [0x55] }

theorem witness_EveryStepKeepsInvariant :
    Inv invState ∧ ∃ t, step invState = .next t := by
  refine ⟨?_, _, rfl⟩
  constructor
  · exact ⟨witness_TallyBelowMarkCountsEverySlot.length, witness_TallyBelowMarkCountsEverySlot.above,
      witness_TallyBelowMarkCountsEverySlot.top, witness_TallyBelowMarkCountsEverySlot.full⟩
  · exact ⟨by decide, by decide⟩
  · exact ⟨fun pkt h => (by cases h), fun h => (by cases h), fun _ => rfl⟩
  · rfl
  · intro h; cases h
  · intro h; cases h
  · rfl
  · exact ⟨rfl, by decide, fun h => (by cases h)⟩
  · intro i h; cases h
theorem witness_QuiescentExactlyWhenNoInternalStepActs :
    quiescent base = true ∧ quiescent { base with bq := [1] } = false ∧ Instr.rxStep.opClass = .internal ∧
    runEnded { base with turns := [.dec, .env] } = true := by decide
/-- R282's list: an ended run may still hold a packet that waits for an acknowledge, a buffered event, a byte in the window, a
partial frame, and DRAIN = 1 waiting for TICKs. -/
theorem test_runEnded_pending :
    runEnded { aggState .half [occ 4 6 1] 1 with
      txHas := true, txPkt := pktE2, dwl := true, dw0 := 0x81, rxLen := 3, drain := true, drainT := 100 } = true := by
  decide
/-- A word on the port, a held word, and an enabled internal step each keep the run going. -/
theorem test_runEnded_not :
    runEnded { base with cmdIn := [0x60000000] } = false ∧
    runEnded { base with held := [.setMode .half], drain := true, drainT := 100 } = false ∧
    runEnded { base with rxEdges := 2 } = false := by decide
theorem witness_HeldCommandsAreNeverLost :
    step { base with turns := [.held 0], held := [.setMode .full] } = .next { base with turnNo := 1 } ∧
    step { base with turns := [.env], cmdIn := [0x20000001], drain := true, drainT := 1 } =
      .next { base with turnNo := 1, drain := true, drainT := 1, held := [.setMode .half] } := ⟨rfl, rfl⟩
theorem witness_OutputStreamsOnlyGrow :
    step { base with turns := [.env], cmdIn := [0x60000000] } = .next { base with turnNo := 1 } := rfl
theorem witness_QueuesAreFirstInFirstOut : exec (.byteIn 7) base = .next { base with bq := [7] } := rfl
theorem witness_NoStepReadsOutputStreams :
    withoutOutputs { txState 0 false with txTrace := [1, 2] } = withoutOutputs { txState 0 false with hostOut := [3] } := rfl
theorem witness_RegistersChangeOnlyByTheirWriter :
    exec (.rxLines 0x11) base = .next { base with rxLines := 0x11, rxEdges := 2 } := rfl

end Sys2Proof.Tests
end

section
/-! PROOFS. What later proofs need about the operations and the step: the effect of an operation as a function of the
state, the control part of the state, the output streams, and what a turn fetches. -/

namespace Sys2Proof.Proofs

open Sys2Proof.Machine Sys2Proof.Safety

/-! ### The effect of an operation

No operation stops (60_exceptions.md R270), so `exec` is a function from states to states. -/

/-- The state an operation answers. `exec_eq_next_effect` ties it to the model. -/
def effect (i : Instr) (s : State) : State :=
  match i with
  | .byteIn b => pushByte b s
  | .setMode m => commandStep (.setMode m) (applyMode m) s
  | .inject x y p => commandStep (.inject x y p) (aggIn { x, y, p }) s
  | .fwdEnable k t => commandStep (.fwdEnable k t) (applyFwdEnable k t) s
  | .fwdDisable k => commandStep (.fwdDisable k) (applyFwdDisable k) s
  | .tick => tickDrain { s with fwdS := tickFwd s.fwdS, fwdL := tickFwd s.fwdL }
  | .ackLine v => if ackEdge s v then releaseGate { s with ackIn := v } else s
  | .rxLines v => { s with rxEdges := s.rxEdges + lineEdges s v, rxLines := v }
  | .frameByte1 y => window (0x80#8 ||| y.setWidth 8) s
  | .resyncByte1 b => window (b.setWidth 8) s
  | .frameByte2 p x => window ((p.setWidth 8 <<< 7) ||| x.setWidth 8) s
  | .decStep =>
    match s.bq with
    | [] => s
    | b :: rest => window b { s with bq := rest }
  | .txFetch =>
    match s.txHas, s.pktq with
    | false, pkt :: rest => { s with pktq := rest, txPkt := pkt, txIdx := 0, txHas := true }
    | _, _ => s
  | .txSend => if txSendEnabled s then (if s.fwdS.active then sendToHost s else sendToBus s) else s
  | .drainTake => if drainTakeEnabled s then { takeGate s with drain := false, drainT := 0 } else s
  | .rxStep => if rxStepEnabled s then closeFrame (recoveredSymbol s) (takeSample s) else s

/-- Every operation of every state answers a next state, the one of its effect. -/
theorem exec_eq_next_effect (i : Instr) (s : State) : exec i s = .next (effect i s) := by
  cases i with
  | byteIn b => rfl
  | setMode m => rfl
  | inject x y p => rfl
  | fwdEnable k t => rfl
  | fwdDisable k => rfl
  | tick => rfl
  | ackLine v => exact (apply_ite Host.Outcome.next _ _ _).symm
  | rxLines v => rfl
  | frameByte1 y => rfl
  | resyncByte1 b => rfl
  | frameByte2 p x => rfl
  | decStep =>
    change execDecStep s = _
    unfold execDecStep effect
    cases s.bq <;> rfl
  | txFetch =>
    change execTxFetch s = _
    unfold execTxFetch effect
    cases s.txHas <;> cases s.pktq <;> rfl
  | txSend => exact (apply_ite Host.Outcome.next _ _ _).symm
  | drainTake => exact (apply_ite Host.Outcome.next _ _ _).symm
  | rxStep => exact (apply_ite Host.Outcome.next _ _ _).symm

/-- An operation that answers `t` has the effect `t`. -/
theorem effect_eq_of_exec {i : Instr} {s t : State} (h : exec i s = .next t) : effect i s = t :=
  Host.Outcome.next.inj ((exec_eq_next_effect i s).symm.trans h)

/-! ### What a turn fetches -/

section
variable (s : State)

theorem fetchWord_nil (h : s.cmdIn = []) : fetchWord s = (.nothing, s) := by
  simp [fetchWord, h]

theorem fetchWord_cons_some (w : Word) (ws : List Word) (i : Instr) (h : s.cmdIn = w :: ws)
    (hd : decodeWord w = some i) : fetchWord s = (.run i, { s with cmdIn := ws }) := by
  simp [fetchWord, h, hd]

theorem fetchWord_cons_none (w : Word) (ws : List Word) (h : s.cmdIn = w :: ws) (hd : decodeWord w = none) :
    fetchWord s = (.reserved w, { s with cmdIn := ws }) := by
  simp [fetchWord, h, hd]

theorem fetchHeld_of_drain (n : Nat) (h : s.drain = true) : fetchHeld n s = (.nothing, s) := by
  simp [fetchHeld, h]

theorem fetchHeld_none (n : Nat) (h : s.held[n]? = none) : fetchHeld n s = (.nothing, s) := by
  simp [fetchHeld, h]

theorem fetchHeld_some (n : Nat) (i : Instr) (h : s.held[n]? = some i) (hd : s.drain = false) :
    fetchHeld n s = (.run i, { s with held := s.held.eraseIdx n }) := by
  simp [fetchHeld, h, hd]

/-- A turn leaves the held list, or it is the turn of a held operation with DRAIN = 0, which it takes off and runs. -/
theorem fetchTurn_held_cases (t : Turn) :
    (fetchTurn t s).2.held = s.held ∨
    (s.drain = false ∧ ∃ n i, s.held[n]? = some i ∧
      fetchTurn t s = (.run i, { s with held := s.held.eraseIdx n })) := by
  cases t with
  | env =>
    left
    change (fetchWord s).2.held = s.held
    cases hc : s.cmdIn with
    | nil => rw [fetchWord_nil s hc]
    | cons w ws =>
      cases hd : decodeWord w with
      | none => rw [fetchWord_cons_none s w ws hc hd]
      | some i => rw [fetchWord_cons_some s w ws i hc hd]
  | held n =>
    by_cases hd : s.drain = true
    · exact .inl (congrArg (·.2.held) (fetchHeld_of_drain s n hd))
    · have hd : s.drain = false := Bool.eq_false_iff.mpr hd
      cases hn : s.held[n]? with
      | none => exact .inl (congrArg (·.2.held) (fetchHeld_none s n hn))
      | some i => exact .inr ⟨hd, n, i, hn, fetchHeld_some s n i hn hd⟩
  | dec => exact .inl rfl
  | tx => exact .inl rfl
  | cmd => exact .inl rfl
  | rx => exact .inl rfl

/-! ### The step from what is fetched -/

theorem fetch_eq_of_turn {t : Turn} (h : currentTurn s = t) : fetch s = fetchTurn t (passTurn s) := by
  rw [fetch, h]

variable {s}

theorem step_of_fetch_run {i : Instr} {u : State} (h : fetch s = (.run i, u)) : step s = exec i u := by
  simp [step, h]

theorem step_of_fetch_reserved {w : Word} {u : State} (h : fetch s = (.reserved w, u)) :
    step s = .next (markRefused w u) := by
  simp [step, h]

theorem step_of_fetch_nothing {u : State} (h : fetch s = (.nothing, u)) : step s = .next u := by
  simp [step, h]

end

/-! ### The control part of the state -/

/-- The fields that every operation leaves, but for the held list when DRAIN = 1 holds the operation: the parameters
(R6), the held list and the refusal marks (R10), the command port and the turns. -/
structure Control where
  cfg : Cfg
  held : List Instr
  refusals : List Word
  cmdIn : List Word
  turns : List Turn
  turnNo : Nat

/-- The control part of a state. -/
def control (s : State) : Control where
  cfg := s.cfg
  held := s.held
  refusals := s.refusals
  cmdIn := s.cmdIn
  turns := s.turns
  turnNo := s.turnNo

section
variable (s : State)

theorem control_pushByte (b : Byte) : control (pushByte b s) = control s := by
  rcases pushByte_cases b s with ⟨-, h⟩ | ⟨-, h⟩
  · rw [h]
    rfl
  · rw [h]

theorem control_applyMode (m : Mode) : control (applyMode m s) = control s := by
  rcases applyMode_cases m s with ⟨-, h⟩ | ⟨-, -, h⟩ <;> rw [h] <;> rfl

theorem control_aggIn (e : Event) : control (aggIn e s) = control s := by
  obtain ⟨sl, hwm, q, h⟩ := aggIn_frame e s
  rw [h]
  rfl

theorem control_window (b : Byte) : control (window b s) = control s := by
  obtain ⟨d, l, sl, hwm, q, h⟩ := window_frame b s
  rw [h]
  rfl

theorem control_applyFwdEnable (k : Path) (t : BitVec 24) : control (applyFwdEnable k t s) = control s := by
  cases k <;> rfl

theorem control_acquireGate : control (acquireGate s) = control s := by
  rcases acquireGate_cases s with ⟨-, h⟩ | ⟨-, h⟩ <;> rw [h] <;> rfl

theorem control_applyFwdDisable (k : Path) : control (applyFwdDisable k s) = control s := by
  cases k with
  | S => exact control_acquireGate _
  | L => rfl

theorem control_tickDrain : control (tickDrain s) = control s := by
  obtain ⟨d, n, h⟩ := tickDrain_frame s
  rw [h]
  rfl

theorem control_advancePacket : control (advancePacket s) = control s := by
  obtain ⟨has, idx, h⟩ := advancePacket_frame s
  rw [h]
  rfl

theorem control_sendToHost : control (sendToHost s) = control s := by
  rw [sendToHost, control_advancePacket, forwardSymbol_eq]
  rfl

theorem control_sendToBus : control (sendToBus s) = control s := by
  rw [sendToBus, control_advancePacket]
  rfl

theorem control_closeFrame (sym : Symbol) : control (closeFrame sym s) = control s := by
  obtain ⟨n, ho, lo, h, -⟩ := closeFrame_frame sym s
  rw [h]
  rfl

/-- A class C operation whose own effect keeps the control part keeps it, or is held (R96). -/
theorem control_commandStep (i : Instr) {f : State → State} (hf : control (f s) = control s) :
    control (commandStep i f s) = control s ∨ (s.drain = true ∧ commandStep i f s = holdCommand i s) := by
  rcases commandStep_cases i f s with held | ⟨-, h⟩
  · exact .inr held
  · exact .inl (by rw [h, hf])

/-- An operation keeps the control part of the state, but for a class C operation that DRAIN = 1 holds (R96). -/
theorem control_effect (i : Instr) :
    control (effect i s) = control s ∨ (s.drain = true ∧ effect i s = holdCommand i s) := by
  cases i with
  | byteIn b => exact .inl (control_pushByte s b)
  | setMode m => exact control_commandStep s _ (control_applyMode s m)
  | inject x y p => exact control_commandStep s _ (control_aggIn s _)
  | fwdEnable k t => exact control_commandStep s _ (control_applyFwdEnable s k t)
  | fwdDisable k => exact control_commandStep s _ (control_applyFwdDisable s k)
  | tick => exact .inl (control_tickDrain _)
  | ackLine v =>
    left
    simp only [effect]
    split <;> rfl
  | rxLines v => exact .inl rfl
  | frameByte1 y => exact .inl (control_window s _)
  | resyncByte1 b => exact .inl (control_window s _)
  | frameByte2 p x => exact .inl (control_window s _)
  | decStep =>
    left
    simp only [effect]
    split
    · rfl
    · exact control_window _ _
  | txFetch =>
    left
    simp only [effect]
    split <;> rfl
  | txSend =>
    left
    simp only [effect]
    split
    · split
      · exact control_sendToHost s
      · exact control_sendToBus s
    · rfl
  | drainTake =>
    left
    simp only [effect]
    split <;> rfl
  | rxStep =>
    left
    simp only [effect]
    split
    · exact control_closeFrame _ _
    · rfl

/-- No operation writes the parameters (R6). -/
theorem effect_cfg (i : Instr) : (effect i s).cfg = s.cfg := by
  rcases control_effect s i with h | ⟨-, h⟩
  · exact congrArg Control.cfg h
  · rw [h, holdCommand_cfg]

/-- An operation leaves the held list, or is added at its end because DRAIN = 1 (R96). -/
theorem effect_held_cases (i : Instr) :
    (effect i s).held = s.held ∨ (s.drain = true ∧ (effect i s).held = s.held ++ [i]) := by
  rcases control_effect s i with h | ⟨hd, h⟩
  · exact .inl (congrArg Control.held h)
  · exact .inr ⟨hd, by rw [h, holdCommand_held]⟩

/-- Fetching writes neither the parameters nor DRAIN. -/
theorem fetch_cfg_drain : (fetch s).2.cfg = s.cfg ∧ (fetch s).2.drain = s.drain := by
  obtain ⟨c, h, hf, -, -⟩ := fetchTurn_frame (currentTurn s) (passTurn s)
  rw [fetch, hf]
  exact ⟨rfl, rfl⟩

end

/-! ### The output streams

The streams are only written at their end (R9), so every operation commutes with putting values before what they
hold. -/

/-- What the three output streams hold. -/
structure Outputs where
  host : List Byte
  loc : List Payload
  trace : List Symbol

/-- The output streams of a state. -/
def outputs (s : State) : Outputs where
  host := s.hostOut
  loc := s.localOut
  trace := s.txTrace

/-- The state with `o` standing before what its output streams hold. -/
def prependOutputs (o : Outputs) (s : State) : State :=
  { s with hostOut := o.host ++ s.hostOut, localOut := o.loc ++ s.localOut, txTrace := o.trace ++ s.txTrace }

/-- A state is its own outputs before the state without them. -/
theorem prependOutputs_withoutOutputs (s : State) : prependOutputs (outputs s) (withoutOutputs s) = s := by
  simp [prependOutputs, withoutOutputs, outputs]

theorem withoutOutputs_prependOutputs (o : Outputs) (s : State) :
    withoutOutputs (prependOutputs o s) = withoutOutputs s := rfl

section
variable (o : Outputs) (s : State)

theorem forwardSymbol_prependOutputs (sym : Symbol) :
    forwardSymbol sym (prependOutputs o s) = prependOutputs o (forwardSymbol sym s) := by
  simp [forwardSymbol_eq, prependOutputs]

theorem driveBus_prependOutputs (sym : Symbol) :
    driveBus sym (prependOutputs o s) = prependOutputs o (driveBus sym s) := by
  simp [driveBus, prependOutputs]

theorem emitHost_prependOutputs (bs : List Byte) :
    emitHost bs (prependOutputs o s) = prependOutputs o (emitHost bs s) := by
  simp [emitHost, prependOutputs]

theorem emitLocal_prependOutputs (v : Payload) :
    emitLocal v (prependOutputs o s) = prependOutputs o (emitLocal v s) := by
  simp [emitLocal, prependOutputs]

theorem prependOutputs_ite (c : Prop) [Decidable c] (u : State) :
    prependOutputs o (if c then s else u) = if c then prependOutputs o s else prependOutputs o u :=
  apply_ite (prependOutputs o) c s u

theorem pushByte_prependOutputs (b : Byte) :
    pushByte b (prependOutputs o s) = prependOutputs o (pushByte b s) := by
  simp only [pushByte, prependOutputs_ite]
  rfl

theorem applyMode_prependOutputs (m : Mode) :
    applyMode m (prependOutputs o s) = prependOutputs o (applyMode m s) := by
  simp only [applyMode, prependOutputs_ite]
  rfl

theorem agg_of_firstFree_none (e : Event) (h : firstFree s.slots = none) : agg e s = (none, s) := by
  simp [agg, h]

theorem agg_of_firstFree_some (e : Event) (i : Nat) (h : firstFree s.slots = some i) :
    agg e s =
      let u := insertSlot i e s
      let b := blockOf s.mode e
      if emits s.mode (tally b u) then (some (coarseEvent b (tally b u)), emitFree b u) else (none, u) := by
  simp [agg, h]

theorem agg_prependOutputs (e : Event) :
    agg e (prependOutputs o s) = ((agg e s).1, prependOutputs o (agg e s).2) := by
  cases hf : firstFree s.slots with
  | none => rw [agg_of_firstFree_none s e hf, agg_of_firstFree_none (prependOutputs o s) e hf]
  | some i =>
    rw [agg_of_firstFree_some s e i hf, agg_of_firstFree_some (prependOutputs o s) e i hf]
    change (if emits s.mode (tally (blockOf s.mode e) (insertSlot i e s)) = true then _ else _) = _
    dsimp only
    split <;> rfl

theorem aggIn_prependOutputs (e : Event) :
    aggIn e (prependOutputs o s) = prependOutputs o (aggIn e s) := by
  unfold aggIn
  rw [apply_ite (prependOutputs o), agg_prependOutputs]
  rcases agg e s with ⟨_ | e2, u⟩ <;> rfl

theorem window_prependOutputs (b : Byte) :
    window b (prependOutputs o s) = prependOutputs o (window b s) := by
  simp only [window, prependOutputs_ite, ← aggIn_prependOutputs]
  rfl

theorem applyFwdEnable_prependOutputs (k : Path) (t : BitVec 24) :
    applyFwdEnable k t (prependOutputs o s) = prependOutputs o (applyFwdEnable k t s) := by
  cases k <;> rfl

theorem acquireGate_prependOutputs :
    acquireGate (prependOutputs o s) = prependOutputs o (acquireGate s) := by
  simp only [acquireGate, prependOutputs_ite]
  rfl

theorem applyFwdDisable_prependOutputs (k : Path) :
    applyFwdDisable k (prependOutputs o s) = prependOutputs o (applyFwdDisable k s) := by
  cases k with
  | S => exact acquireGate_prependOutputs o (setFwd .S (fwdOff s.fwdS) s)
  | L => rfl

theorem tickDrain_prependOutputs :
    tickDrain (prependOutputs o s) = prependOutputs o (tickDrain s) := by
  simp only [tickDrain, prependOutputs_ite]
  rfl

theorem advancePacket_prependOutputs :
    advancePacket (prependOutputs o s) = prependOutputs o (advancePacket s) := by
  simp only [advancePacket, prependOutputs_ite]
  rfl

theorem sendToHost_prependOutputs :
    sendToHost (prependOutputs o s) = prependOutputs o (sendToHost s) := by
  have forward := forwardSymbol_prependOutputs o (takeGate s) (nextSymbol s)
  unfold sendToHost
  rw [← advancePacket_prependOutputs]
  exact congrArg (fun u => advancePacket (releaseGate u)) forward

theorem sendToBus_prependOutputs :
    sendToBus (prependOutputs o s) = prependOutputs o (sendToBus s) := by
  have drive := driveBus_prependOutputs o (takeGate s) (nextSymbol s)
  unfold sendToBus
  rw [← advancePacket_prependOutputs]
  exact congrArg advancePacket drive

theorem deliver_prependOutputs (v : Payload) :
    deliver v (prependOutputs o s) = prependOutputs o (deliver v s) := by
  simp only [deliver, prependOutputs_ite, ← emitHost_prependOutputs, ← emitLocal_prependOutputs]
  rfl

theorem frameEnd_prependOutputs (why : FrameEnd) :
    frameEnd why (prependOutputs o s) = prependOutputs o (frameEnd why s) := by
  change (match frameResult why s with | some v => _ | none => _) = _
  unfold frameEnd
  cases frameResult why s with
  | none => rfl
  | some v => exact congrArg emptyRxBuf (deliver_prependOutputs o s v)

theorem closeFrame_prependOutputs (sym : Symbol) :
    closeFrame sym (prependOutputs o s) = prependOutputs o (closeFrame sym s) := by
  simp only [closeFrame, prependOutputs_ite, ← frameEnd_prependOutputs]
  rfl

/-- A class C operation commutes with earlier outputs when its own effect does. -/
theorem commandStep_prependOutputs (i : Instr) {f : State → State}
    (hf : f (prependOutputs o s) = prependOutputs o (f s)) :
    commandStep i f (prependOutputs o s) = prependOutputs o (commandStep i f s) := by
  simp only [commandStep, prependOutputs_ite, hf]
  rfl

/-- No operation reads what the output streams hold (R9). -/
theorem effect_prependOutputs (i : Instr) :
    effect i (prependOutputs o s) = prependOutputs o (effect i s) := by
  cases i with
  | byteIn b => exact pushByte_prependOutputs o s b
  | setMode m => exact commandStep_prependOutputs o s _ (applyMode_prependOutputs o s m)
  | inject x y p => exact commandStep_prependOutputs o s _ (aggIn_prependOutputs o s _)
  | fwdEnable k t => exact commandStep_prependOutputs o s _ (applyFwdEnable_prependOutputs o s k t)
  | fwdDisable k => exact commandStep_prependOutputs o s _ (applyFwdDisable_prependOutputs o s k)
  | tick => exact tickDrain_prependOutputs o { s with fwdS := tickFwd s.fwdS, fwdL := tickFwd s.fwdL }
  | ackLine v =>
    simp only [effect, prependOutputs_ite]
    rfl
  | rxLines v => rfl
  | frameByte1 y => exact window_prependOutputs o s _
  | resyncByte1 b => exact window_prependOutputs o s _
  | frameByte2 p x => exact window_prependOutputs o s _
  | decStep =>
    change (match s.bq with | [] => _ | b :: rest => _) = _
    unfold effect
    cases s.bq with
    | nil => rfl
    | cons b rest => exact window_prependOutputs o { s with bq := rest } b
  | txFetch =>
    change (match s.txHas, s.pktq with | false, pkt :: rest => _ | _, _ => _) = _
    unfold effect
    cases s.txHas <;> cases s.pktq <;> rfl
  | txSend =>
    simp only [effect, prependOutputs_ite, ← sendToHost_prependOutputs, ← sendToBus_prependOutputs]
    rfl
  | drainTake =>
    simp only [effect, prependOutputs_ite]
    rfl
  | rxStep =>
    simp only [effect, prependOutputs_ite, ← closeFrame_prependOutputs]
    rfl

/-- A turn fetches the same whatever the output streams hold (R9). -/
theorem fetchTurn_prependOutputs (t : Turn) :
    fetchTurn t (prependOutputs o s) = ((fetchTurn t s).1, prependOutputs o (fetchTurn t s).2) := by
  cases t with
  | env =>
    simp only [fetchTurn]
    cases hc : s.cmdIn with
    | nil => rw [fetchWord_nil s hc, fetchWord_nil (prependOutputs o s) hc]
    | cons w ws =>
      cases hd : decodeWord w with
      | none =>
        rw [fetchWord_cons_none s w ws hc hd, fetchWord_cons_none (prependOutputs o s) w ws hc hd]
        rfl
      | some i =>
        rw [fetchWord_cons_some s w ws i hc hd, fetchWord_cons_some (prependOutputs o s) w ws i hc hd]
        rfl
  | held n =>
    simp only [fetchTurn]
    by_cases hd : s.drain = true
    · rw [fetchHeld_of_drain s n hd, fetchHeld_of_drain (prependOutputs o s) n hd]
    · have hd : s.drain = false := Bool.eq_false_iff.mpr hd
      cases hn : s.held[n]? with
      | none => rw [fetchHeld_none s n hn, fetchHeld_none (prependOutputs o s) n hn]
      | some i =>
        rw [fetchHeld_some s n i hn hd, fetchHeld_some (prependOutputs o s) n i hn hd]
        rfl
  | dec => rfl
  | tx => rfl
  | cmd => rfl
  | rx => rfl

theorem fetch_prependOutputs :
    fetch (prependOutputs o s) = ((fetch s).1, prependOutputs o (fetch s).2) :=
  fetchTurn_prependOutputs o (passTurn s) (currentTurn s)

end

/-! ### The step -/

/-- Every step of every state answers a next state. -/
theorem exists_step_eq_next (s : State) : ∃ t, step s = .next t := by
  rcases step_cases s with ⟨i, -, h⟩ | ⟨w, -, h⟩ | ⟨-, h⟩
  · exact ⟨_, h.trans (exec_eq_next_effect i _)⟩
  · exact ⟨_, h⟩
  · exact ⟨_, h⟩

/-- What a step that answers `t` did: the effect of the operation its turn fetched, a refusal mark, or nothing. -/
theorem step_eq_next_cases {s t : State} (h : step s = .next t) :
    (∃ i, (fetch s).1 = .run i ∧ t = effect i (fetch s).2) ∨
    (∃ w, (fetch s).1 = .reserved w ∧ t = markRefused w (fetch s).2) ∨
    ((fetch s).1 = .nothing ∧ t = (fetch s).2) := by
  rcases step_cases s with ⟨i, hf, hs⟩ | ⟨w, hf, hs⟩ | ⟨hf, hs⟩
  · exact .inl ⟨i, hf, (effect_eq_of_exec (hs.symm.trans h)).symm⟩
  · exact .inr (.inl ⟨w, hf, Host.Outcome.next.inj (h.symm.trans hs)⟩)
  · exact .inr (.inr ⟨hf, Host.Outcome.next.inj (h.symm.trans hs)⟩)

/-- No step reads what the output streams hold (R9). -/
theorem step_prependOutputs (o : Outputs) {s t : State} (h : step s = .next t) :
    step (prependOutputs o s) = .next (prependOutputs o t) := by
  have hp := fetch_prependOutputs o s
  rcases step_eq_next_cases h with ⟨i, hf, rfl⟩ | ⟨w, hf, rfl⟩ | ⟨hf, rfl⟩ <;> rw [hf] at hp
  · rw [step_of_fetch_run hp, exec_eq_next_effect, effect_prependOutputs]
  · exact step_of_fetch_reserved hp
  · exact step_of_fetch_nothing hp

end Sys2Proof.Proofs
end

section
/-! PROOFS. The constraints of an instantiation (00_scope.md R1 to R5) and the packing table (R4). -/

namespace Sys2Proof.Proofs

open Sys2Proof.Machine Sys2Proof.Safety

/-! ### Each check of a parameter set is its rule -/

section
variable (p : Params)

theorem weightOk_iff : p.weightOk = true ↔ p.weight = 2 ∨ p.weight = 3 := by
  simp [Params.weightOk]

theorem symWeightOk_iff : p.symWeightOk = true ↔ ∀ n : Fin 17, popcount p.sym[n] = p.weight := by
  simp [Params.symWeightOk, Fin.forall_iff]

theorem symDistinct_iff : p.symDistinct = true ↔ ∀ m n : Fin 17, p.sym[m] = p.sym[n] → m = n := by
  simp [Params.symDistinct, List.nodup_iff_injective_getElem, Function.Injective, Fin.forall_iff]

theorem hdrDistinct_iff : p.hdrDistinct = true ↔ p.hdr[0] ≠ p.hdr[1] := by
  simp [Params.hdrDistinct]

theorem termOk_iff : p.termOk = true ↔ p.term.toNat ≤ 0x1F ∨ p.term = 0x7F := by
  simp [Params.termOk]

theorem capsOk_iff : p.capsOk = true ↔ 1 ≤ p.byteQCap ∧ 1 ≤ p.pktQCap ∧ 1 ≤ p.rxCap := by
  simp [Params.capsOk, and_assoc]

/-- A parameter set passes the model's checks exactly when it meets the rules. -/
theorem wf_iff_paramsOk : p.wf = true ↔ ParamsOk p := by
  simp only [Params.wf, Bool.and_eq_true, weightOk_iff, symWeightOk_iff, symDistinct_iff, hdrDistinct_iff, termOk_iff,
    capsOk_iff]
  constructor
  · rintro ⟨⟨⟨⟨⟨weight, symWeight⟩, symDistinct⟩, hdrDistinct⟩, term⟩, byteQCap, pktQCap, rxCap⟩
    exact { weight, symWeight, symDistinct, hdrDistinct, term, byteQCap, pktQCap, rxCap }
  · intro ok
    exact ⟨⟨⟨⟨⟨ok.weight, ok.symWeight⟩, ok.symDistinct⟩, ok.hdrDistinct⟩, ok.term⟩,
      ok.byteQCap, ok.pktQCap, ok.rxCap⟩

theorem instantiate_of_wf (h : p.wf = true) : instantiate p = .next (State.powerOn { params := p, ok := h }) :=
  dif_pos h

theorem instantiate_of_not_wf (h : ¬ p.wf = true) : instantiate p = .refused .badParameters :=
  dif_neg h

end

/-! ### The packing table -/

/-- Bits from `k` upward decide a coordinate shifted down by `k`. -/
theorem ushiftRight_eq_of_upper_bits {x x' : Coord} {k : Nat} (h : ∀ j, k ≤ j → x.getLsbD j = x'.getLsbD j) :
    x >>> k = x' >>> k := by
  ext j hj
  simpa using h (k + j) (by omega)

/-- A coordinate shifted down and up again keeps its bits from `k` upward. -/
theorem getLsbD_ushiftRight_shiftLeft (x : Coord) {k j : Nat} (h : k ≤ j) :
    (x >>> k <<< k).getLsbD j = x.getLsbD j := by
  by_cases hj : j < 7
  · simp [hj, h]
  · simp [BitVec.getLsbD_of_ge, Nat.le_of_not_lt hj]

/-- An entry lists the packing of mode `m` at the coordinates. -/
def listsAt (m : Mode) (x y : Coord) (e : PackEntry) : Bool :=
  e.mode == m && e.xHi == x >>> m.code.toNat && e.yHi == y >>> m.code.toNat

theorem listsAt_iff (m : Mode) (x y : Coord) (e : PackEntry) :
    listsAt m x y e = true ↔ e.mode = m ∧ e.xHi = x >>> m.code.toNat ∧ e.yHi = y >>> m.code.toNat := by
  simp [listsAt, and_assoc]

/-- A packing is read at the first entry that lists its place, and is 0 where none does. -/
theorem packBits_eq (c : Params) (m : Mode) (x y : Coord) :
    packBits c m x y = ((c.pack.find? (listsAt m x y)).map PackEntry.bits).getD 0 := by
  change (match c.pack.find? (listsAt m x y) with | some e => e.bits | none => 0) = _
  cases c.pack.find? (listsAt m x y) <;> rfl

/-- Where every entry that lists a place has the bits `v` and some entry lists it, the packing is `v`. -/
theorem packBits_eq_of_listed (c : Params) (m : Mode) (x y : Coord) (v : Payload)
    (listed : ∃ e ∈ c.pack, listsAt m x y e = true)
    (bits : ∀ e ∈ c.pack, listsAt m x y e = true → e.bits = v) : packBits c m x y = v := by
  obtain ⟨e, he⟩ := Option.isSome_iff_exists.mp (List.find?_isSome.mpr listed)
  rw [packBits_eq, he]
  exact bits e (List.mem_of_find?_eq_some he) (List.find?_some he)

/-- The entry of a packing `f` at shifted coordinates: `f` at the lowest coordinates of that place. -/
def entryOf (f : Mode → Coord → Coord → Payload) (m : Mode) (xHi yHi : Coord) : PackEntry where
  mode := m
  xHi := xHi
  yHi := yHi
  bits := f m (xHi <<< m.code.toNat) (yHi <<< m.code.toNat)

/-- Every coordinate, in order. -/
def allCoords : List Coord :=
  (List.finRange 128).map BitVec.ofFin

theorem mem_allCoords (x : Coord) : x ∈ allCoords :=
  List.mem_map.mpr ⟨x.toFin, List.mem_finRange _, rfl⟩

/-- The table of a packing `f`: its entry at every mode and every pair of shifted coordinates. -/
def tableOf (f : Mode → Coord → Coord → Payload) : List PackEntry :=
  [Mode.full, .half, .quarter, .eighth].flatMap fun m =>
    allCoords.flatMap fun xHi => allCoords.map fun yHi => entryOf f m xHi yHi

theorem mem_tableOf (f : Mode → Coord → Coord → Payload) (e : PackEntry) :
    e ∈ tableOf f ↔ e = entryOf f e.mode e.xHi e.yHi := by
  have hm : e.mode ∈ [Mode.full, .half, .quarter, .eighth] := by cases e.mode <;> simp
  constructor
  · simp only [tableOf, List.mem_flatMap, List.mem_map]
    rintro ⟨m, -, xHi, -, yHi, -, rfl⟩
    rfl
  · intro he
    simp only [tableOf, List.mem_flatMap, List.mem_map]
    exact ⟨e.mode, hm, e.xHi, mem_allCoords _, e.yHi, mem_allCoords _, he.symm⟩

end Sys2Proof.Proofs
end

section
/-! PROOFS. The statements of 00_scope.md. -/

namespace Sys2Proof.Proofs

open Sys2Proof.Machine Sys2Proof.Safety

/-- Settles O7: the environment's turn fetches its next word, and the step runs what is fetched. -/
theorem stepRunsDecodedWord : Obligations.StepRunsDecodedWord := by
  intro s henv
  have fetched := fetch_eq_of_turn s henv
  constructor
  · intro w ws i hc hd
    exact step_of_fetch_run (fetched.trans (fetchWord_cons_some (passTurn s) w ws i hc hd))
  · intro hc
    exact step_of_fetch_nothing (fetched.trans (fetchWord_nil (passTurn s) hc))

/-- Settles O9: the turn of a held number fetches that operation only while DRAIN = 0. -/
theorem heldOperationWaitsForDrain : Obligations.HeldOperationWaitsForDrain := by
  intro s n hheld
  have fetched := fetch_eq_of_turn s hheld
  refine ⟨?_, ?_, ?_⟩
  · intro i hn hd
    exact step_of_fetch_run (fetched.trans (fetchHeld_some (passTurn s) n i hn hd))
  · intro hn
    exact step_of_fetch_nothing (fetched.trans (fetchHeld_none (passTurn s) n hn))
  · intro hd
    exact step_of_fetch_nothing (fetched.trans (fetchHeld_of_drain (passTurn s) n hd))

/-- Settles O12: the model's checks are the rules, and `instantiate` refuses exactly what fails them. -/
theorem badParametersRefused : Obligations.BadParametersRefused := by
  intro p
  constructor
  · intro bad
    exact instantiate_of_not_wf p (mt (wf_iff_paramsOk p).mp bad)
  · intro ok
    have hwf := (wf_iff_paramsOk p).mpr ok
    exact ⟨{ params := p, ok := hwf }, rfl, instantiate_of_wf p hwf⟩

/-- Settles O34: the table is read at the shifted coordinates, which the upper bits decide. -/
theorem packReadsOnlyUpperBits : Obligations.PackReadsOnlyUpperBits := by
  intro c m x y x' y' hx hy
  have same : listsAt m x y = listsAt m x' y' := by
    funext e
    rw [listsAt, listsAt, ushiftRight_eq_of_upper_bits hx, ushiftRight_eq_of_upper_bits hy]
  rw [packBits_eq, packBits_eq, same]

/-- Settles O35: the table of `f` at every place, each entry `f` at the lowest coordinates of its place. -/
theorem everyPackingHasTable : Obligations.EveryPackingHasTable := by
  intro f upper
  refine ⟨tableOf f, fun c hc m x y => packBits_eq_of_listed c m x y _ ?_ ?_⟩
  · refine ⟨entryOf f m (x >>> m.code.toNat) (y >>> m.code.toNat), ?_, ?_⟩
    · rw [hc]
      exact (mem_tableOf f _).mpr rfl
    · exact (listsAt_iff m x y _).mpr ⟨rfl, rfl, rfl⟩
  · intro e he hl
    obtain ⟨hm, hx, hy⟩ := (listsAt_iff m x y e).mp hl
    rw [hc, mem_tableOf, hm, hx, hy] at he
    rw [he]
    exact upper m _ _ _ _ (fun k hk => getLsbD_ushiftRight_shiftLeft x hk)
      (fun k hk => getLsbD_ushiftRight_shiftLeft y hk)

/-- Settles O53: neither fetching, nor an effect, nor a refusal mark writes the parameters. -/
theorem parametersNeverChange : Obligations.ParametersNeverChange := by
  intro s t h
  obtain ⟨fetched, -⟩ := fetch_cfg_drain s
  rcases step_eq_next_cases h with ⟨i, -, rfl⟩ | ⟨w, -, rfl⟩ | ⟨-, rfl⟩
  · exact (effect_cfg _ i).trans fetched
  · exact fetched
  · exact fetched

/-- Settles O56: a held operation's turn takes it off and runs it with DRAIN = 0; every other turn leaves the list, and
the operation it runs is added only while DRAIN = 1. -/
theorem heldCommandsAreNeverLost : Obligations.HeldCommandsAreNeverLost := by
  intro s t h
  obtain ⟨-, drain⟩ := fetch_cfg_drain s
  rcases fetchTurn_held_cases (passTurn s) (currentTurn s) with held | ⟨hd, n, i, hn, hf⟩
  · left
    change (fetch s).2.held = s.held at held
    have kept : (fetch s).2.held = s.held ++ [] := held.trans s.held.append_nil.symm
    rcases step_eq_next_cases h with ⟨i, -, rfl⟩ | ⟨w, -, rfl⟩ | ⟨-, rfl⟩
    · rcases effect_held_cases (fetch s).2 i with same | ⟨hd, added⟩
      · exact ⟨[], same.trans kept, by simp, by simp⟩
      · exact ⟨[i], by rw [added, held], by simp, fun _ => drain ▸ hd⟩
    · exact ⟨[], kept, by simp, by simp⟩
    · exact ⟨[], kept, by simp, by simp⟩
  · right
    have ran := (step_of_fetch_run hf).symm.trans h
    refine ⟨hd, n, i, hn, ?_, ran⟩
    rcases effect_held_cases _ i with same | ⟨hd', -⟩
    · exact effect_eq_of_exec ran ▸ same
    · exact absurd (hd.symm.trans hd') (by decide)

/-- Settles O59: two such states are one state with different outputs before it, and the step commutes with them. -/
theorem noStepReadsOutputStreams : Obligations.NoStepReadsOutputStreams := by
  intro s1 s2 same
  obtain ⟨t, ht⟩ := exists_step_eq_next (withoutOutputs s1)
  have step1 := step_prependOutputs (outputs s1) ht
  have step2 := step_prependOutputs (outputs s2) (same ▸ ht)
  rw [prependOutputs_withoutOutputs] at step1 step2
  exact ⟨_, _, step1, step2, rfl, t.hostOut, t.localOut, t.txTrace, rfl, rfl, rfl, rfl, rfl, rfl⟩

end Sys2Proof.Proofs
end

section
/-! PROOFS. The slots: the invariant R28 of 10_state.md under each write of the aggregator, and the tally below the
mark. -/

namespace Sys2Proof.Proofs

open Sys2Proof.Machine Sys2Proof.Safety

/-! ### Slots of an array after a write -/

section
variable (sl : List Slot)

theorem getD_set_self {i : Nat} (c : Slot) (hi : i < sl.length) : (sl.set i c).getD i Slot.free = c := by
  simp [hi]

theorem getD_set_of_ne {i j : Nat} (c : Slot) (hij : i ≠ j) :
    (sl.set i c).getD j Slot.free = sl.getD j Slot.free := by
  simp [hij]

/-- A cleared array has no occupied slot (R140). -/
theorem occ_getD_map_freeSlot (j : Nat) : ((sl.map freeSlot).getD j Slot.free).occ = false := by
  rw [show Slot.free = freeSlot Slot.free from rfl, List.getD_map]
  rfl

/-- Freeing the contributors below the mark leaves the slots from the mark upward (R146). -/
theorem getD_freeContributors_of_le (b : Block) {h j : Nat} (hj : h ≤ j) :
    (freeContributors b sl h).getD j Slot.free = sl.getD j Slot.free := by
  rcases Nat.lt_or_ge j sl.length with hlt | hge
  · have below_length : (sl.take h).length = h := List.length_take_of_le (by omega)
    rw [freeContributors, List.getD_append_right _ _ _ _ (by simpa using Or.inl hj), List.length_map, below_length]
    simp [Nat.add_sub_cancel' hj]
  · rw [List.getD_eq_default _ _ (by simpa using hge), List.getD_eq_default _ _ hge]

/-- Where no slot from `h` upward is occupied, the slots below `h` count all that a test of occupied slots accepts. -/
theorem countP_take_of_free_above {h : Nat} {f : Slot → Bool}
    (above : ∀ j, h ≤ j → (sl.getD j Slot.free).occ = false) (occupied : ∀ c, f c = true → c.occ = true) : (sl.take h).countP f = sl.countP f := by
  have none_above : (sl.drop h).countP f = 0 := by
    rw [List.countP_eq_zero]
    intro c hc hf
    obtain ⟨k, hk, rfl⟩ := List.mem_drop_iff_getElem.mp hc
    have free := above (h + k) (by omega)
    rw [List.getD_eq_getElem _ _ (by omega), occupied _ hf] at free
    exact absurd free (by decide)
  conv_rhs => rw [← List.take_append_drop h sl, List.countP_append, none_above, Nat.add_zero]

end

theorem occ_of_contributes {b : Block} {c : Slot} (h : contributes b c = true) : c.occ = true := by
  simp only [contributes, Bool.and_eq_true] at h
  tauto

/-! ### The invariant of the slots -/

section
variable {s t : State}

/-- The invariant of the slots speaks of the slots, HWM and MODE only. -/
theorem slotsWf_congr (h : SlotsWf s) (slots : t.slots = s.slots) (hwm : t.hwm = s.hwm) (mode : t.mode = s.mode) :
    SlotsWf t where
  length := slots ▸ h.length
  above j := by
    rw [slotAt, slots, hwm]
    exact h.above j
  top := by
    rw [slotAt, slots, hwm]
    exact h.top
  full hm j := by
    rw [slotAt, slots]
    exact h.full (mode ▸ hm) j

theorem slotsWf_powerOn (c : Cfg) : SlotsWf (State.powerOn c) := by
  have free : ∀ j, (slotAt (State.powerOn c) j).occ = false := by
    intro j
    change ((List.replicate Config.aggCap Slot.free).getD j Slot.free).occ = false
    rw [List.getD_eq_getElem?_getD, List.getElem?_getD_replicate_default_eq]
    rfl
  exact { length := List.length_replicate, above := fun j _ => free j, top := .inl rfl, full := fun _ j => free j }

/-- The event goes into the first free slot; the mark is raised to it (R143 step 2). -/
theorem slotsWf_insertSlot (h : SlotsWf s) (hm : s.mode ≠ .full) {i : Nat} (hi : i < s.slots.length) (e : Event) :
    SlotsWf (insertSlot i e s) where
  length := by simpa using h.length
  above j hj := by
    have hj : max s.hwm (i + 1) ≤ j := hj
    rw [slotAt, insertSlot_slots, getD_set_of_ne _ _ (by omega)]
    exact h.above j (by omega)
  top := by
    right
    change ((s.slots.set i _).getD (max s.hwm (i + 1) - 1) Slot.free).occ = true
    by_cases raised : s.hwm ≤ i + 1
    · rw [show max s.hwm (i + 1) - 1 = i by omega, getD_set_self _ _ hi]
    · rw [show max s.hwm (i + 1) - 1 = s.hwm - 1 by omega, getD_set_of_ne _ _ (by omega)]
      exact h.top.resolve_left (by omega)
  full hfull := absurd hfull hm

/-- The contributors are freed and the mark is scanned down to the highest slot still occupied (R146). -/
theorem slotsWf_emitFree (h : SlotsWf s) (hm : s.mode ≠ .full) (b : Block) : SlotsWf (emitFree b s) := by
  obtain ⟨-, free_to_old_mark, top⟩ := scanDown_spec (freeContributors b s.slots s.hwm) s.hwm
  exact {
    length := by simpa using h.length
    above := by
      intro j hj
      rcases Nat.lt_or_ge j s.hwm with below | above
      · exact free_to_old_mark j hj below
      · rw [slotAt, emitFree_slots, getD_freeContributors_of_le _ _ above]
        exact h.above j above
    top := top
    full := fun hfull => absurd hfull hm }

/-- SET_MODE clears every slot when the mode changes, so that at Full every slot is free (R140). -/
theorem slotsWf_applyMode (h : SlotsWf s) (m : Mode) : SlotsWf (applyMode m s) := by
  rcases applyMode_cases m s with ⟨-, he⟩ | ⟨same, -, he⟩ <;> rw [he]
  · have free : ∀ j, ((s.slots.map freeSlot).getD j Slot.free).occ = false := occ_getD_map_freeSlot s.slots
    exact { length := by simpa using h.length, above := fun j _ => free j, top := .inl rfl, full := fun _ j => free j }
  · exact slotsWf_congr h rfl rfl same

end

end Sys2Proof.Proofs
end

section
/-! PROOFS. The invariant of the block under each operation and under the fetch. -/

namespace Sys2Proof.Proofs

open Sys2Proof.Machine Sys2Proof.Safety

variable {s t : State}

/-! ### What the parts of the invariant read -/

theorem queuesWf_congr (h : QueuesWf s) (cfg : t.cfg = s.cfg) (bq : t.bq = s.bq) (pktq : t.pktq = s.pktq) :
    QueuesWf t where
  bytes := by
    rw [State.prm, cfg, bq]
    exact h.bytes
  packets := by
    rw [State.prm, cfg, pktq]
    exact h.packets

theorem packetsWf_congr (h : PacketsWf s) (cfg : t.cfg = s.cfg) (pktq : t.pktq = s.pktq) (txHas : t.txHas = s.txHas)
    (txPkt : t.txPkt = s.txPkt) (txIdx : t.txIdx = s.txIdx) : PacketsWf t where
  queued := by
    rw [State.prm, cfg, pktq]
    exact h.queued
  inFlight := by
    rw [State.prm, cfg, txHas, txPkt]
    exact h.inFlight
  index := by
    rw [txHas, txIdx]
    exact h.index

theorem rxWf_congr (h : RxWf s) (cfg : t.cfg = s.cfg) (rxBuf : t.rxBuf = s.rxBuf) (rxLen : t.rxLen = s.rxLen) :
    RxWf t where
  length := by
    rw [State.prm, cfg, rxBuf]
    exact h.length
  fill := by
    rw [State.prm, cfg, rxLen]
    exact h.fill
  noEop := by
    rw [State.prm, receivedFrame, cfg, rxBuf, rxLen]
    exact h.noEop

/-- A write keeps the invariant when it keeps each part of it. A part none of whose fields are written is kept, by
default; the caller gives the others. -/
theorem inv_of_write (inv : Inv s)
    (slots : SlotsWf s → SlotsWf t := by exact fun h => slotsWf_congr h rfl rfl rfl)
    (queues : QueuesWf s → QueuesWf t := by exact fun h => queuesWf_congr h rfl rfl rfl)
    (packets : PacketsWf s → PacketsWf t := by exact fun h => packetsWf_congr h rfl rfl rfl rfl rfl)
    (bus : BusWf s → BusWf t := by exact id)
    (fwdS : FwdWf s.fwdS → FwdWf t.fwdS := by exact id)
    (fwdL : FwdWf s.fwdL → FwdWf t.fwdL := by exact id)
    (drain : DrainWf s → DrainWf t := by exact id)
    (rx : RxWf s → RxWf t := by exact fun h => rxWf_congr h rfl rfl rfl)
    (held : HeldWf s → HeldWf t := by exact id) : Inv t where
  slots := slots inv.slots
  queues := queues inv.queues
  packets := packets inv.packets
  bus := bus inv.bus
  fwdS := fwdS inv.fwdS
  fwdL := fwdL inv.fwdL
  drain := drain inv.drain
  rx := rx inv.rx
  held := held inv.held

/-! ### Queues and aggregator -/

theorem cfg_capsOk (c : Cfg) : 1 ≤ c.params.byteQCap ∧ 1 ≤ c.params.pktQCap ∧ 1 ≤ c.params.rxCap :=
  have ok := (wf_iff_paramsOk c.params).mp c.ok
  ⟨ok.byteQCap, ok.pktQCap, ok.rxCap⟩

theorem inv_pushByte (inv : Inv s) (b : Byte) : Inv (pushByte b s) := by
  rcases pushByte_cases b s with ⟨room, he⟩ | ⟨-, he⟩ <;> rw [he]
  · exact inv_of_write inv (queues := fun q => ⟨by simpa using room, q.packets⟩)
  · exact inv

/-- Bit 15 of a payload is 1 (R84), so the packet of every event is whole. -/
theorem wholePacket_of_event (c : Params) (m : Mode) (e : Event) : WholePacket c (packetOf c (payload c m e)) :=
  ⟨_, by simp [payload], rfl⟩

/-- ENQUEUE of a whole packet: a full PKTQ loses one packet for it, and its capacity is at least 1 (R173). -/
theorem inv_enqueue (inv : Inv s) {pkt : Packet} (whole : WholePacket s.prm pkt) : Inv (enqueue pkt s) := by
  have cap : 1 ≤ s.prm.pktQCap := (cfg_capsOk s.cfg).2.1
  have fits := inv.queues.packets
  have within : (enqueue pkt s).pktq.length ≤ s.prm.pktQCap ∧
      ∀ q ∈ (enqueue pkt s).pktq, q ∈ s.pktq ∨ q = pkt := by
    rcases enqueue_pktq_cases pkt s with ⟨he, hlt⟩ | ⟨he, hfull⟩ <;> rw [he]
    · exact ⟨by rw [List.length_append, List.length_singleton]; omega, by simp⟩
    · refine ⟨by rw [List.length_append, List.length_drop, List.length_singleton]; omega, fun q hq => ?_⟩
      exact (List.mem_append.mp hq).imp List.mem_of_mem_drop List.mem_singleton.mp
  obtain ⟨len, mem⟩ := within
  refine inv_of_write inv (queues := fun q => ⟨q.bytes, len⟩)
    (packets := fun p => ⟨fun q hq => ?_, p.inFlight, p.index⟩)
  rcases mem q hq with old | rfl
  · exact p.queued q old
  · exact whole

theorem inv_enc (inv : Inv s) (e : Event) : Inv (enc e s) :=
  inv_enqueue inv (wholePacket_of_event s.prm s.mode e)

theorem inv_aggIn (inv : Inv s) (e : Event) : Inv (aggIn e s) := by
  have buffered : ∀ i, s.mode ≠ .full → firstFree s.slots = some i → Inv (insertSlot i e s) := by
    intro i hm hf
    obtain ⟨hi, -, -⟩ := (firstFree_eq_some s.slots i).mp hf
    exact inv_of_write inv (slots := fun h => slotsWf_insertSlot h hm hi e)
  rcases aggIn_cases e s with ⟨-, he⟩ | ⟨-, -, he⟩ | ⟨i, hm, hf, -, he⟩ | ⟨i, hm, hf, -, he⟩ <;> rw [he]
  · exact inv_enc inv e
  · exact inv
  · exact buffered i hm hf
  · exact inv_enc (inv_of_write (buffered i hm hf) (slots := fun h => slotsWf_emitFree h hm _)) _

theorem inv_applyMode (inv : Inv s) (m : Mode) : Inv (applyMode m s) := by
  have slots := slotsWf_applyMode inv.slots m
  rcases applyMode_cases m s with ⟨-, he⟩ | ⟨-, -, he⟩ <;> rw [he] at slots ⊢ <;>
    exact inv_of_write inv (slots := fun _ => slots)

theorem inv_window (inv : Inv s) (b : Byte) : Inv (window b s) := by
  rcases window_cases b s with ⟨-, he⟩ | ⟨-, -, he⟩ <;> rw [he]
  · exact inv_of_write inv
  · exact inv_aggIn (inv_of_write inv) _

theorem inv_decStep (inv : Inv s) : Inv (effect .decStep s) := by
  cases hq : s.bq with
  | nil => simpa [effect, hq] using inv
  | cons b rest =>
    have popped : Inv { s with bq := rest } := by
      have fits := inv.queues.bytes
      rw [hq, List.length_cons] at fits
      exact inv_of_write inv (queues := fun q => ⟨Nat.le_of_succ_le fits, q.packets⟩)
    simpa [effect, hq] using inv_window popped b

/-! ### Transmitter -/

theorem inv_txFetch (inv : Inv s) : Inv (effect .txFetch s) := by
  cases hh : s.txHas with
  | true => simpa [effect, hh] using inv
  | false =>
    cases hq : s.pktq with
    | nil => simpa [effect, hh, hq] using inv
    | cons pkt rest =>
      have fits := inv.queues.packets
      have whole := inv.packets.queued
      rw [hq] at fits whole
      have fetched : Inv { s with pktq := rest, txPkt := pkt, txIdx := 0, txHas := true } :=
        inv_of_write inv
          (queues := fun q => ⟨q.bytes, Nat.le_of_succ_le fits⟩)
          (packets := fun _ => ⟨fun q hm => whole q (List.mem_cons_of_mem _ hm),
            fun _ => whole pkt List.mem_cons_self, fun no => absurd no.symm Bool.false_ne_true⟩)
      simpa [effect, hh, hq] using fetched

/-- Moving on in a packet: the index stays within it, and is 0 after it (R191). -/
theorem inv_advancePacket (inv : Inv s) (has : s.txHas = true) : Inv (advancePacket s) := by
  rcases advancePacket_cases s with ⟨-, he⟩ | ⟨-, he⟩ <;> rw [he]
  · exact inv_of_write inv (packets := fun p => ⟨p.queued, fun no => absurd no Bool.false_ne_true, fun _ => rfl⟩)
  · exact inv_of_write inv
      (packets := fun p => ⟨p.queued, p.inFlight, fun no => absurd (no.symm.trans has) Bool.false_ne_true⟩)

theorem inv_sendToHost (inv : Inv s) (has : s.txHas = true) : Inv (sendToHost s) := by
  rw [sendToHost, forwardSymbol_eq]
  exact inv_advancePacket (inv_of_write inv) has

/-- The level driven on the bus is the last one traced (R32, R44). -/
theorem busWf_driveBus (sym : Symbol) (u : State) : BusWf (driveBus sym u) := by
  simp [BusWf]

theorem inv_sendToBus (inv : Inv s) (has : s.txHas = true) : Inv (sendToBus s) :=
  inv_advancePacket (inv_of_write inv (bus := fun _ => busWf_driveBus _ _)) has

theorem inv_txSend (inv : Inv s) : Inv (effect .txSend s) := by
  simp only [effect]
  split
  · rename_i on
    have has : s.txHas = true := (Bool.and_eq_true_iff.mp on).1
    split
    · exact inv_sendToHost inv has
    · exact inv_sendToBus inv has
  · exact inv

/-! ### Forwarding, drain and time -/

theorem fwdWf_of_disarmed {f : Fwd} (h : f.armed = false) : FwdWf f :=
  fun armed => absurd (h.symm.trans armed) Bool.false_ne_true

theorem fwdWf_fwdOn (n : BitVec 24) (f : Fwd) : FwdWf (fwdOn n f) := by
  rcases fwdOn_cases n f with ⟨-, he⟩ | ⟨hn, he⟩ <;> rw [he]
  · exact fwdWf_of_disarmed rfl
  · exact fun _ => ⟨rfl, hn⟩

theorem fwdWf_fwdOff (f : Fwd) : FwdWf (fwdOff f) :=
  fwdWf_of_disarmed rfl

theorem fwdWf_tickFwd {f : Fwd} (h : FwdWf f) : FwdWf (tickFwd f) := by
  rcases tickFwd_cases f with ⟨-, he⟩ | ⟨-, -, he⟩ | ⟨armed, left, he⟩ <;> rw [he]
  · exact h
  · exact fwdWf_of_disarmed rfl
  · exact fun _ => ⟨(h armed).1, left⟩

theorem inv_setFwd (inv : Inv s) (k : Path) {f : Fwd} (h : FwdWf f) : Inv (setFwd k f s) := by
  cases k with
  | S => exact inv_of_write inv (fwdS := fun _ => h)
  | L => exact inv_of_write inv (fwdL := fun _ => h)

theorem inv_applyFwdEnable (inv : Inv s) (k : Path) (n : BitVec 24) : Inv (applyFwdEnable k n s) := by
  have on := inv_setFwd inv k (fwdWf_fwdOn n (getFwd k s))
  cases k with
  | S => exact inv_of_write on
  | L => exact on

/-- The bounded wait begins with P_DRAIN_TIMEOUT TICKs (R221). -/
theorem inv_acquireGate (inv : Inv s) : Inv (acquireGate s) := by
  rcases acquireGate_cases s with ⟨-, he⟩ | ⟨-, he⟩ <;> rw [he]
  · exact inv_of_write inv
  · exact inv_of_write inv (drain := fun _ => by simp [DrainWf])

theorem inv_applyFwdDisable (inv : Inv s) (k : Path) : Inv (applyFwdDisable k s) := by
  have off := inv_setFwd inv k (fwdWf_fwdOff (getFwd k s))
  cases k with
  | S => exact inv_acquireGate off
  | L => exact off

theorem inv_tickDrain (inv : Inv s) : Inv (tickDrain s) := by
  have wait := inv.drain
  rcases tickDrain_cases s with ⟨-, he⟩ | ⟨-, -, he⟩ | ⟨on, left, he⟩ <;> rw [he]
  · exact inv
  · exact inv_of_write inv (drain := fun _ => rfl)
  · refine inv_of_write inv (drain := fun _ => ?_)
    simp only [DrainWf, on, if_true] at wait ⊢
    omega

theorem inv_tick (inv : Inv s) : Inv (effect .tick s) :=
  inv_tickDrain (inv_of_write inv (fwdS := fwdWf_tickFwd) (fwdL := fwdWf_tickFwd))

theorem inv_drainTake (inv : Inv s) : Inv (effect .drainTake s) := by
  simp only [effect]
  split
  · exact inv_of_write inv (drain := fun _ => rfl)
  · exact inv

/-! ### Receiver -/

/-- The buffer after a sample: its length stays, and what is received is one symbol longer (R241). -/
theorem receivedFrame_takeSample (fill : s.rxLen < s.rxBuf.length) :
    receivedFrame (takeSample s) = receivedFrame s ++ [recoveredSymbol s] := by
  rw [receivedFrame, takeSample_rxLen, takeSample_rxBuf, List.take_add_one, List.take_set_of_le (Nat.le_refl _)]
  simp [receivedFrame, fill]

/-- A sample that ends the frame empties the buffer, so it is never full and never holds EOP (R241, R242). -/
theorem rxWf_closeFrame_takeSample (h : RxWf s) : RxWf (closeFrame (recoveredSymbol s) (takeSample s)) := by
  have cap : 1 ≤ s.prm.rxCap := (cfg_capsOk s.cfg).2.2
  have length : (takeSample s).rxBuf.length = s.prm.rxCap := by simpa using h.length
  have emptied : ∀ why, RxWf (frameEnd why (takeSample s)) := by
    intro why
    obtain ⟨ho, lo, he, -⟩ := frameEnd_frame why (takeSample s)
    rw [he]
    exact ⟨length, cap, by simp [receivedFrame]⟩
  rcases closeFrame_cases (recoveredSymbol s) (takeSample s) with
    ⟨-, he⟩ | ⟨-, -, he⟩ | ⟨notEop, notFull, he⟩ <;> rw [he]
  · exact emptied .eop
  · exact emptied .full
  · have fill := h.fill
    refine ⟨length, Nat.lt_of_le_of_ne fill notFull, ?_⟩
    rw [receivedFrame_takeSample (h.length ▸ fill), List.mem_append, List.mem_singleton]
    exact fun mem => mem.elim h.noEop (Ne.symm notEop)

theorem inv_rxStep (inv : Inv s) : Inv (effect .rxStep s) := by
  simp only [effect]
  split
  · have rx := rxWf_closeFrame_takeSample inv.rx
    obtain ⟨n, ho, lo, he, -⟩ := closeFrame_frame (recoveredSymbol s) (takeSample s)
    rw [he] at rx ⊢
    exact inv_of_write inv (rx := fun _ => rx)
  · exact inv

/-! ### Every operation, and the step -/

/-- A class C operation whose effect keeps the invariant keeps it, and so does holding it (R96). -/
theorem inv_commandStep (inv : Inv s) {i : Instr} (hc : i.opClass = .command) {f : State → State} (hf : Inv (f s)) :
    Inv (commandStep i f s) := by
  rcases commandStep_cases i f s with ⟨-, he⟩ | ⟨-, he⟩ <;> rw [he]
  · refine inv_of_write inv (held := fun h j hj => ?_)
    rcases List.mem_append.mp hj with old | new
    · exact h j old
    · exact List.mem_singleton.mp new ▸ hc
  · exact hf

theorem inv_effect (inv : Inv s) (i : Instr) : Inv (effect i s) := by
  cases i with
  | byteIn b => exact inv_pushByte inv b
  | setMode m => exact inv_commandStep inv rfl (inv_applyMode inv m)
  | inject x y p => exact inv_commandStep inv rfl (inv_aggIn inv _)
  | fwdEnable k n => exact inv_commandStep inv rfl (inv_applyFwdEnable inv k n)
  | fwdDisable k => exact inv_commandStep inv rfl (inv_applyFwdDisable inv k)
  | tick => exact inv_tick inv
  | ackLine v =>
    simp only [effect]
    split
    · exact inv_of_write inv
    · exact inv
  | rxLines v => exact inv_of_write inv
  | frameByte1 y => exact inv_window inv _
  | resyncByte1 b => exact inv_window inv _
  | frameByte2 p x => exact inv_window inv _
  | decStep => exact inv_decStep inv
  | txFetch => exact inv_txFetch inv
  | txSend => exact inv_txSend inv
  | drainTake => exact inv_drainTake inv
  | rxStep => exact inv_rxStep inv

/-- The fetch passes the turn and takes at most a word off the port or an operation off the held list. -/
theorem inv_fetch (inv : Inv s) : Inv (fetch s).2 := by
  obtain ⟨c, h, he, -, held⟩ := fetchTurn_frame (currentTurn s) (passTurn s)
  have kept : ∀ i ∈ h, i ∈ s.held := by
    rcases held with rfl | ⟨n, rfl⟩
    · exact fun i hi => hi
    · exact fun i hi => List.mem_of_mem_eraseIdx hi
  rw [fetch, he]
  exact inv_of_write inv (held := fun wf i hi => wf i (kept i hi))

theorem inv_powerOn (c : Cfg) : Inv (State.powerOn c) where
  slots := slotsWf_powerOn c
  queues := ⟨Nat.zero_le _, Nat.zero_le _⟩
  packets := ⟨fun _ hm => absurd hm List.not_mem_nil, fun no => absurd no Bool.false_ne_true, fun _ => rfl⟩
  bus := rfl
  fwdS := fwdWf_of_disarmed rfl
  fwdL := fwdWf_of_disarmed rfl
  drain := rfl
  rx := ⟨List.length_replicate, (cfg_capsOk c).2.2, List.not_mem_nil⟩
  held := fun _ hm => absurd hm List.not_mem_nil

end Sys2Proof.Proofs
end

section
/-! PROOFS. What each operation writes, and what follows for the registers with one writer and for the output
streams. -/

namespace Sys2Proof.Proofs

open Sys2Proof.Machine Sys2Proof.Safety

/-! ### What an operation writes -/

/-- The state `t` is the state `s` but for the fields that the operation writes (its "State written" list in spec/; a
class C operation can also be held). -/
def WritesOnly (i : Instr) (s t : State) : Prop :=
  match i with
  | .byteIn _ => ∃ bq, t = { s with bq }
  | .setMode _ => ∃ mode slots hwm held, t = { s with mode, slots, hwm, held }
  | .inject _ _ _ => ∃ slots hwm pktq held, t = { s with slots, hwm, pktq, held }
  | .fwdEnable _ _ => ∃ fwdS fwdL txGate held, t = { s with fwdS, fwdL, txGate, held }
  | .fwdDisable _ => ∃ fwdS fwdL txGate drain drainT held, t = { s with fwdS, fwdL, txGate, drain, drainT, held }
  | .tick => ∃ fwdS fwdL drain drainT, t = { s with fwdS, fwdL, drain, drainT }
  | .ackLine _ => ∃ ackIn txGate, t = { s with ackIn, txGate }
  | .rxLines _ => ∃ rxLines rxEdges, t = { s with rxLines, rxEdges }
  | .frameByte1 _ => ∃ dw0 dwl slots hwm pktq, t = { s with dw0, dwl, slots, hwm, pktq }
  | .resyncByte1 _ => ∃ dw0 dwl slots hwm pktq, t = { s with dw0, dwl, slots, hwm, pktq }
  | .frameByte2 _ _ => ∃ dw0 dwl slots hwm pktq, t = { s with dw0, dwl, slots, hwm, pktq }
  | .decStep => ∃ bq dw0 dwl slots hwm pktq, t = { s with bq, dw0, dwl, slots, hwm, pktq }
  | .txFetch => ∃ pktq txPkt txIdx txHas, t = { s with pktq, txPkt, txIdx, txHas }
  | .txSend => ∃ txHas txIdx txGate txOut txFcnt hostOut txTrace,
      t = { s with txHas, txIdx, txGate, txOut, txFcnt, hostOut, txTrace }
  | .drainTake => ∃ txGate drain drainT, t = { s with txGate, drain, drainT }
  | .rxStep => ∃ rxEdges rxPrev rxBuf rxLen rxAck hostOut localOut,
      t = { s with rxEdges, rxPrev, rxBuf, rxLen, rxAck, hostOut, localOut }

section
variable (s : State)

theorem byteIn_writesOnly (b : Byte) : WritesOnly (.byteIn b) s (effect (.byteIn b) s) := by
  rcases pushByte_cases b s with ⟨-, h⟩ | ⟨-, h⟩ <;> exact ⟨_, h⟩

theorem setMode_writesOnly (m : Mode) : WritesOnly (.setMode m) s (effect (.setMode m) s) := by
  rcases commandStep_cases (.setMode m) (applyMode m) s with ⟨-, h⟩ | ⟨-, h⟩
  · exact ⟨_, _, _, _, h⟩
  · rcases applyMode_cases m s with ⟨-, h2⟩ | ⟨-, -, h2⟩ <;> exact ⟨_, _, _, _, h.trans h2⟩

theorem inject_writesOnly (x y : Coord) (p : Polarity) : WritesOnly (.inject x y p) s (effect (.inject x y p) s) := by
  rcases commandStep_cases (.inject x y p) (aggIn { x, y, p }) s with ⟨-, h⟩ | ⟨-, h⟩
  · exact ⟨_, _, _, _, h⟩
  · obtain ⟨_, _, _, h2⟩ := aggIn_frame { x, y, p } s
    exact ⟨_, _, _, _, h.trans h2⟩

theorem fwdEnable_writesOnly (k : Path) (n : BitVec 24) :
    WritesOnly (.fwdEnable k n) s (effect (.fwdEnable k n) s) := by
  rcases commandStep_cases (.fwdEnable k n) (applyFwdEnable k n) s with ⟨-, h⟩ | ⟨-, h⟩
  · exact ⟨_, _, _, _, h⟩
  · cases k <;> exact ⟨_, _, _, _, h⟩

theorem fwdDisable_writesOnly (k : Path) : WritesOnly (.fwdDisable k) s (effect (.fwdDisable k) s) := by
  rcases commandStep_cases (.fwdDisable k) (applyFwdDisable k) s with ⟨-, h⟩ | ⟨-, h⟩
  · exact ⟨_, _, _, _, _, _, h⟩
  · cases k with
    | S =>
      rcases acquireGate_cases (setFwd .S (fwdOff s.fwdS) s) with ⟨-, h2⟩ | ⟨-, h2⟩ <;>
        exact ⟨_, _, _, _, _, _, h.trans h2⟩
    | L => exact ⟨_, _, _, _, _, _, h⟩

theorem decStep_writesOnly : WritesOnly .decStep s (effect .decStep s) := by
  cases hq : s.bq with
  | nil => exact ⟨_, _, _, _, _, _, by simp only [effect, hq]; rfl⟩
  | cons b rest =>
    obtain ⟨_, _, _, _, _, h⟩ := window_frame b { s with bq := rest }
    exact ⟨_, _, _, _, _, _, by simpa only [effect, hq] using h⟩

theorem txFetch_writesOnly : WritesOnly .txFetch s (effect .txFetch s) := by
  simp only [effect]
  split <;> exact ⟨_, _, _, _, rfl⟩

/-- A symbol sent to the host: the transmitter moves on, the gate is released again, and the symbol's byte goes out,
alone or followed by P_TERM (R191). -/
theorem sendToHost_frame : ∃ txHas txIdx txFcnt, ∃ h : List Byte,
    sendToHost s = { s with txHas, txIdx, txGate := true, txFcnt, hostOut := s.hostOut ++ h } ∧
    (h = [symbolByte (nextSymbol s)] ∨ h = [symbolByte (nextSymbol s), s.prm.term]) := by
  rw [sendToHost, forwardSymbol_eq]
  obtain ⟨has, idx, h⟩ := advancePacket_frame (releaseGate (forwardSymbol (nextSymbol s) (takeGate s)))
  rw [forwardSymbol_eq] at h
  refine ⟨has, idx, _, _, h, ?_⟩
  split
  · exact .inr rfl
  · exact .inl rfl

/-- A symbol sent on the bus: the transmitter moves on, the gate stays taken, and the new level is traced (R191). -/
theorem sendToBus_frame : ∃ txHas txIdx, sendToBus s = { s with
    txHas, txIdx, txGate := false, txOut := s.txOut ^^^ nextSymbol s
    txTrace := s.txTrace ++ [s.txOut ^^^ nextSymbol s] } := by
  obtain ⟨has, idx, h⟩ := advancePacket_frame (driveBus (nextSymbol s) (takeGate s))
  exact ⟨has, idx, h⟩

theorem txSend_writesOnly : WritesOnly .txSend s (effect .txSend s) := by
  simp only [effect]
  split
  · split
    · obtain ⟨_, _, _, _, h, -⟩ := sendToHost_frame s
      exact ⟨_, _, _, _, _, _, _, h⟩
    · obtain ⟨_, _, h⟩ := sendToBus_frame s
      exact ⟨_, _, _, _, _, _, _, h⟩
  · exact ⟨_, _, _, _, _, _, _, rfl⟩

theorem rxStep_writesOnly : WritesOnly .rxStep s (effect .rxStep s) := by
  simp only [effect]
  split
  · obtain ⟨_, _, _, h, -⟩ := closeFrame_frame (recoveredSymbol s) (takeSample s)
    exact ⟨_, _, _, _, _, _, _, h⟩
  · exact ⟨_, _, _, _, _, _, _, rfl⟩

/-- Every operation writes only the fields of its list. -/
theorem effect_writesOnly (i : Instr) : WritesOnly i s (effect i s) := by
  cases i with
  | byteIn b => exact byteIn_writesOnly s b
  | setMode m => exact setMode_writesOnly s m
  | inject x y p => exact inject_writesOnly s x y p
  | fwdEnable k n => exact fwdEnable_writesOnly s k n
  | fwdDisable k => exact fwdDisable_writesOnly s k
  | tick =>
    obtain ⟨_, _, h⟩ := tickDrain_frame { s with fwdS := tickFwd s.fwdS, fwdL := tickFwd s.fwdL }
    exact ⟨_, _, _, _, h⟩
  | ackLine v =>
    simp only [effect]
    split <;> exact ⟨_, _, rfl⟩
  | rxLines v => exact ⟨_, _, rfl⟩
  | frameByte1 y => exact window_frame _ s
  | resyncByte1 b => exact window_frame _ s
  | frameByte2 p x => exact window_frame _ s
  | decStep => exact decStep_writesOnly s
  | txFetch => exact txFetch_writesOnly s
  | txSend => exact txSend_writesOnly s
  | drainTake =>
    simp only [effect]
    split <;> exact ⟨_, _, _, rfl⟩
  | rxStep => exact rxStep_writesOnly s

end

/-! ### Registers with one writer -/

/-- From `s` to `t` the operation `i` changes a register with one writer only where it is that writer. HOST_OUT has two
(R42). -/
structure KeepsOthersRegisters (i : Instr) (s t : State) : Prop where
  mode : (∀ m, i ≠ .setMode m) → t.mode = s.mode
  bus : i ≠ .txSend → t.txOut = s.txOut ∧ t.txFcnt = s.txFcnt ∧ t.txTrace = s.txTrace
  ackIn : (∀ v, i ≠ .ackLine v) → t.ackIn = s.ackIn
  rxLines : (∀ v, i ≠ .rxLines v) → t.rxLines = s.rxLines
  receiver : i ≠ .rxStep → t.rxPrev = s.rxPrev ∧ t.rxBuf = s.rxBuf ∧ t.rxLen = s.rxLen ∧ t.rxAck = s.rxAck ∧
    t.localOut = s.localOut
  window : i ≠ .decStep → i.opClass ≠ .frameByte → t.dw0 = s.dw0 ∧ t.dwl = s.dwl
  txPkt : i ≠ .txFetch → t.txPkt = s.txPkt
  hostOut : i ≠ .txSend → i ≠ .rxStep → t.hostOut = s.hostOut
  control : t.refusals = s.refusals ∧ t.cmdIn = s.cmdIn ∧ t.turns = s.turns ∧ t.turnNo = s.turnNo ∧ t.cfg = s.cfg

theorem keepsOthersRegisters_of_writesOnly {i : Instr} {s t : State} (h : WritesOnly i s t) :
    KeepsOthersRegisters i s t := by
  cases i with
  | byteIn b => obtain ⟨_, rfl⟩ := h; constructor <;> simp
  | setMode m => obtain ⟨_, _, _, _, rfl⟩ := h; constructor <;> simp
  | inject x y p => obtain ⟨_, _, _, _, rfl⟩ := h; constructor <;> simp
  | fwdEnable k n => obtain ⟨_, _, _, _, rfl⟩ := h; constructor <;> simp
  | fwdDisable k => obtain ⟨_, _, _, _, _, _, rfl⟩ := h; constructor <;> simp
  | tick => obtain ⟨_, _, _, _, rfl⟩ := h; constructor <;> simp
  | ackLine v => obtain ⟨_, _, rfl⟩ := h; constructor <;> simp
  | rxLines v => obtain ⟨_, _, rfl⟩ := h; constructor <;> simp
  | frameByte1 y => obtain ⟨_, _, _, _, _, rfl⟩ := h; constructor <;> simp [Instr.opClass]
  | resyncByte1 b => obtain ⟨_, _, _, _, _, rfl⟩ := h; constructor <;> simp [Instr.opClass]
  | frameByte2 p x => obtain ⟨_, _, _, _, _, rfl⟩ := h; constructor <;> simp [Instr.opClass]
  | decStep => obtain ⟨_, _, _, _, _, _, rfl⟩ := h; constructor <;> simp
  | txFetch => obtain ⟨_, _, _, _, rfl⟩ := h; constructor <;> simp
  | txSend => obtain ⟨_, _, _, _, _, _, _, rfl⟩ := h; constructor <;> simp
  | drainTake => obtain ⟨_, _, _, rfl⟩ := h; constructor <;> simp
  | rxStep => obtain ⟨_, _, _, _, _, _, _, rfl⟩ := h; constructor <;> simp

theorem effect_keepsOthersRegisters (i : Instr) (s : State) : KeepsOthersRegisters i s (effect i s) :=
  keepsOthersRegisters_of_writesOnly (effect_writesOnly s i)

/-! ### Records of the output streams -/

/-- What one step may append to HOST_OUT, LOCAL_OUT and TX_TRACE: nothing, or one record of R91 (R42, R43, R44). -/
def OneRecord (c : Params) (h : List Byte) (l : List Payload) (b : List Symbol) : Prop :=
  (h = [] ∧ l = [] ∧ b = []) ∨
  (l = [] ∧ b = [] ∧ ∃ sym : Symbol, h = [sym.setWidth 8] ∨ h = [sym.setWidth 8, c.term]) ∨
  (l = [] ∧ b = [] ∧ ∃ v : Payload, h = [v.extractLsb' 8 8, v.extractLsb' 0 8, c.term]) ∨
  (h = [] ∧ b = [] ∧ ∃ v : Payload, l = [v]) ∨
  (h = [] ∧ l = [] ∧ ∃ level : Symbol, b = [level])

/-- From `s` to `t` the output streams are kept but for at most one record at their end. -/
def AppendsOneRecord (s t : State) : Prop :=
  ∃ (h : List Byte) (l : List Payload) (b : List Symbol),
    t.hostOut = s.hostOut ++ h ∧ t.localOut = s.localOut ++ l ∧ t.txTrace = s.txTrace ++ b ∧ OneRecord s.prm h l b

section
variable {s t : State}

theorem appendsOneRecord_of_outputs_eq (h : outputs t = outputs s) : AppendsOneRecord s t := by
  obtain ⟨host, loc, trace⟩ := Outputs.mk.inj h
  exact ⟨[], [], [], by rw [List.append_nil, host], by rw [List.append_nil, loc], by rw [List.append_nil, trace],
    .inl ⟨rfl, rfl, rfl⟩⟩

variable (s)

theorem appendsOneRecord_sendToHost : AppendsOneRecord s (sendToHost s) := by
  obtain ⟨_, _, _, h, he, record⟩ := sendToHost_frame s
  rw [he]
  exact ⟨h, [], [], rfl, (List.append_nil _).symm, (List.append_nil _).symm, .inr (.inl ⟨rfl, rfl, _, record⟩)⟩

theorem appendsOneRecord_sendToBus : AppendsOneRecord s (sendToBus s) := by
  obtain ⟨_, _, he⟩ := sendToBus_frame s
  rw [he]
  exact ⟨[], [], [_], (List.append_nil _).symm, (List.append_nil _).symm, rfl,
    .inr (.inr (.inr (.inr ⟨rfl, rfl, _, rfl⟩)))⟩

theorem appendsOneRecord_closeFrame (sym : Symbol) : AppendsOneRecord s (closeFrame sym s) := by
  obtain ⟨_, h, l, he, record⟩ := closeFrame_frame sym s
  rw [he]
  refine ⟨h, l, [], rfl, rfl, (List.append_nil _).symm, ?_⟩
  rcases record with ⟨hh, hl⟩ | ⟨v, hh, hl⟩ | ⟨v, hh, hl⟩
  · exact .inl ⟨hh, hl, rfl⟩
  · exact .inr (.inr (.inl ⟨hl, rfl, v, hh⟩))
  · exact .inr (.inr (.inr (.inl ⟨hh, rfl, v, hl⟩)))

/-- Only TX_SEND and RX_STEP write the output streams, and each appends one record. -/
theorem appendsOneRecord_effect (i : Instr) : AppendsOneRecord s (effect i s) := by
  by_cases hs : i = .txSend
  · subst hs
    simp only [effect]
    split
    · split
      · exact appendsOneRecord_sendToHost s
      · exact appendsOneRecord_sendToBus s
    · exact appendsOneRecord_of_outputs_eq rfl
  · by_cases hr : i = .rxStep
    · subst hr
      simp only [effect]
      split
      · exact appendsOneRecord_closeFrame (takeSample s) _
      · exact appendsOneRecord_of_outputs_eq rfl
    · have keeps := effect_keepsOthersRegisters i s
      obtain ⟨-, -, trace⟩ := keeps.bus hs
      obtain ⟨-, -, -, -, loc⟩ := keeps.receiver hr
      exact appendsOneRecord_of_outputs_eq (by rw [outputs, outputs, keeps.hostOut hs hr, loc, trace])

/-- Fetching writes no output stream. -/
theorem outputs_fetch : outputs (fetch s).2 = outputs s := by
  obtain ⟨c, h, hf, -, -⟩ := fetchTurn_frame (currentTurn s) (passTurn s)
  rw [fetch, hf]
  rfl

end

end Sys2Proof.Proofs
end

section
/-! PROOFS. The statements of 10_state.md. -/

namespace Sys2Proof.Proofs

open Sys2Proof.Machine Sys2Proof.Safety

/-- Settles O54: the fetch keeps the invariant, and so does each operation in the state it leaves. -/
theorem everyStepKeepsInvariant : Obligations.EveryStepKeepsInvariant := by
  intro s t inv h
  have fetched := inv_fetch inv
  rcases step_eq_next_cases h with ⟨i, -, rfl⟩ | ⟨w, -, rfl⟩ | ⟨-, rfl⟩
  · exact inv_effect fetched i
  · exact inv_of_write fetched
  · exact fetched

/-- Settles O14: every part of the invariant holds at power-on, for all parameters that pass the checks. -/
theorem resetSatisfiesInvariant : Obligations.ResetSatisfiesInvariant :=
  inv_powerOn Config.params

/-- Settles O13: every value stands in `State.powerOn`; the slots are 500 copies of a free one. -/
theorem resetStateHasTableValues : Obligations.ResetStateHasTableValues := by
  refine ⟨rfl, rfl, rfl, ⟨List.length_replicate, fun c hc => ?_⟩, rfl, rfl, rfl, rfl, rfl, rfl, rfl, rfl, rfl, rfl, rfl,
    rfl, rfl, rfl, rfl, rfl, rfl, rfl, rfl, rfl⟩
  rw [List.eq_of_mem_replicate hc]
  rfl

/-- Settles O27: no slot from the mark upward is occupied, so none of them contributes. -/
theorem tallyBelowMarkCountsEverySlot : Obligations.TallyBelowMarkCountsEverySlot := by
  intro s b h
  have counts : ∀ f : Slot → Bool, (∀ c, f c = true → contributes b c = true) →
      (s.slots.take s.hwm).countP f = s.slots.countP f := fun f contributing =>
    countP_take_of_free_above s.slots h.above fun c hc => occ_of_contributes (contributing c hc)
  rw [tally, tallyOf, counts _ fun c hc => hc, counts _ fun c hc => (Bool.and_eq_true_iff.mp hc).1,
    counts _ fun c hc => (Bool.and_eq_true_iff.mp hc).1]

/-- Settles O30: MODE is in no other operation's list of written fields. -/
theorem modeWrittenOnlyBySetMode : Obligations.ModeWrittenOnlyBySetMode := by
  intro s t i other h
  rw [← effect_eq_of_exec h]
  exact (effect_keepsOthersRegisters i s).mode other

/-- Settles O57: the fetch writes no stream, a refusal mark writes none, and an operation appends one record or none. -/
theorem outputStreamsOnlyGrow : Obligations.OutputStreamsOnlyGrow := by
  intro s t h
  have fetched := outputs_fetch s
  obtain ⟨cfg, -⟩ := fetch_cfg_drain s
  change AppendsOneRecord s t
  rcases step_eq_next_cases h with ⟨i, -, rfl⟩ | ⟨w, -, rfl⟩ | ⟨-, rfl⟩
  · have grown := appendsOneRecord_effect (fetch s).2 i
    obtain ⟨host, loc, trace⟩ := Outputs.mk.inj fetched
    rwa [AppendsOneRecord, State.prm, cfg, host, loc, trace] at grown
  · exact appendsOneRecord_of_outputs_eq fetched
  · exact appendsOneRecord_of_outputs_eq fetched

/-- Settles O60: each register is in no list of written fields but its writer's. -/
theorem registersChangeOnlyByTheirWriter : Obligations.RegistersChangeOnlyByTheirWriter := by
  intro s t i h
  rw [← effect_eq_of_exec h]
  have keeps := effect_keepsOthersRegisters i s
  exact ⟨keeps.bus, keeps.ackIn, keeps.rxLines, keeps.receiver, keeps.window, keeps.txPkt, keeps.control⟩

end Sys2Proof.Proofs
end

section
/-! PROOFS. The order of BQ and PKTQ under each operation. -/

namespace Sys2Proof.Proofs

open Sys2Proof.Machine Sys2Proof.Safety

/-! ### What first in, first out says of a step -/

/-- From `s` to `t` BQ loses at most its head, by DEC_STEP, and gains at most one byte at its tail, by BYTE_IN (R71). -/
def BytesFifo (i : Instr) (s t : State) : Prop :=
  ∃ (k : Nat) (new : List Byte), t.bq = s.bq.drop k ++ new ∧ k ≤ 1 ∧ new.length ≤ 1 ∧
    (k = 1 → i = .decStep) ∧ (∀ b ∈ new, i = .byteIn b)

/-- From `s` to `t` PKTQ loses at most its head, by TX_FETCH or evicted from a full PKTQ, and gains at most one packet at
its tail (R70, R71). -/
def PacketsFifo (i : Instr) (s t : State) : Prop :=
  ∃ (k : Nat) (new : List Packet), t.pktq = s.pktq.drop k ++ new ∧ k ≤ 1 ∧ new.length ≤ 1 ∧
    (k = 1 → i = .txFetch ∨ (s.pktq.length = s.prm.pktQCap ∧ new ≠ []))

/-- From `s` to `t` the operation `i` serves both queues first in, first out. -/
structure QueuesFifo (i : Instr) (s t : State) : Prop where
  bytes : BytesFifo i s t
  packets : PacketsFifo i s t

section
variable {i : Instr} {s t u : State}

theorem bytesFifo_of_bq_eq (h : t.bq = s.bq) : BytesFifo i s t :=
  ⟨0, [], by simpa using h, by omega, by simp, by omega, by simp⟩

theorem packetsFifo_of_pktq_eq (h : t.pktq = s.pktq) : PacketsFifo i s t :=
  ⟨0, [], by simpa using h, by omega, by simp, by omega⟩

/-- An operation that writes neither queue. -/
theorem queuesFifo_of_eq (bq : t.bq = s.bq) (pktq : t.pktq = s.pktq) : QueuesFifo i s t :=
  ⟨bytesFifo_of_bq_eq bq, packetsFifo_of_pktq_eq pktq⟩

/-! ### The shared operations -/

/-- AGG_IN from a state `u` that has the PKTQ of `s`: a packet leaves only evicted (R173). -/
theorem packetsFifo_aggIn (e : Event) (pktq : u.pktq = s.pktq) (prm : u.prm = s.prm) :
    PacketsFifo i s (aggIn e u) := by
  obtain ⟨k, new, he, hk, hnew, evicted⟩ := aggIn_pktq e u
  rw [pktq] at he evicted
  rw [prm] at evicted
  exact ⟨k, new, he, hk, hnew, fun taken => .inr (evicted taken)⟩

theorem packetsFifo_window (b : Byte) (pktq : u.pktq = s.pktq) (prm : u.prm = s.prm) :
    PacketsFifo i s (window b u) := by
  rcases window_cases b u with ⟨-, he⟩ | ⟨-, -, he⟩ <;> rw [he]
  · exact packetsFifo_of_pktq_eq pktq
  · exact packetsFifo_aggIn _ pktq prm

variable (s)

theorem window_bq (b : Byte) : (window b s).bq = s.bq := by
  obtain ⟨_, _, _, _, _, he⟩ := window_frame b s
  rw [he]

theorem queuesFifo_window (b : Byte) : QueuesFifo i s (window b s) :=
  ⟨bytesFifo_of_bq_eq (window_bq s b), packetsFifo_window b rfl rfl⟩

/-! ### The operations that write a queue -/

theorem queuesFifo_byteIn (b : Byte) : QueuesFifo (.byteIn b) s (effect (.byteIn b) s) := by
  simp only [effect]
  rcases pushByte_cases b s with ⟨-, he⟩ | ⟨-, he⟩ <;> rw [he]
  · exact ⟨⟨0, [b], rfl, by omega, by simp, by omega, by simp⟩, packetsFifo_of_pktq_eq rfl⟩
  · exact queuesFifo_of_eq rfl rfl

theorem queuesFifo_inject (x y : Coord) (p : Polarity) :
    QueuesFifo (.inject x y p) s (effect (.inject x y p) s) := by
  obtain ⟨_, _, _, _, written⟩ := inject_writesOnly s x y p
  refine ⟨bytesFifo_of_bq_eq (by rw [written]), ?_⟩
  simp only [effect]
  rcases commandStep_cases (.inject x y p) (aggIn { x, y, p }) s with ⟨-, he⟩ | ⟨-, he⟩ <;> rw [he]
  · exact packetsFifo_of_pktq_eq rfl
  · exact packetsFifo_aggIn _ rfl rfl

/-- DEC_STEP takes the head of BQ; the window may evict and add a packet. -/
theorem queuesFifo_decStep : QueuesFifo .decStep s (effect .decStep s) := by
  cases hq : s.bq with
  | nil =>
    simp only [effect, hq]
    exact queuesFifo_of_eq rfl rfl
  | cons b rest =>
    simp only [effect, hq]
    exact ⟨⟨1, [], by simp [window_bq, hq], by omega, by simp, fun _ => rfl, by simp⟩, packetsFifo_window b rfl rfl⟩

/-- TX_FETCH takes the head of PKTQ, when no packet is in flight. -/
theorem queuesFifo_txFetch : QueuesFifo .txFetch s (effect .txFetch s) := by
  simp only [effect]
  split
  next pkt rest _ hq =>
    exact ⟨bytesFifo_of_bq_eq rfl, 1, [], by simp [hq], by omega, by simp, fun _ => .inl rfl⟩
  next => exact queuesFifo_of_eq rfl rfl

/-! ### Every operation -/

/-- Every operation serves both queues first in, first out; those that name no queue in their list of written fields
leave both. -/
theorem queuesFifo_effect (i : Instr) : QueuesFifo i s (effect i s) := by
  have written := effect_writesOnly s i
  cases i with
  | byteIn b => exact queuesFifo_byteIn s b
  | setMode m => obtain ⟨_, _, _, _, he⟩ := written; rw [he]; exact queuesFifo_of_eq rfl rfl
  | inject x y p => exact queuesFifo_inject s x y p
  | fwdEnable k n => obtain ⟨_, _, _, _, he⟩ := written; rw [he]; exact queuesFifo_of_eq rfl rfl
  | fwdDisable k => obtain ⟨_, _, _, _, _, _, he⟩ := written; rw [he]; exact queuesFifo_of_eq rfl rfl
  | tick => obtain ⟨_, _, _, _, he⟩ := written; rw [he]; exact queuesFifo_of_eq rfl rfl
  | ackLine v => obtain ⟨_, _, he⟩ := written; rw [he]; exact queuesFifo_of_eq rfl rfl
  | rxLines v => exact queuesFifo_of_eq rfl rfl
  | frameByte1 y => exact queuesFifo_window s _
  | resyncByte1 b => exact queuesFifo_window s _
  | frameByte2 p x => exact queuesFifo_window s _
  | decStep => exact queuesFifo_decStep s
  | txFetch => exact queuesFifo_txFetch s
  | txSend => obtain ⟨_, _, _, _, _, _, _, he⟩ := written; rw [he]; exact queuesFifo_of_eq rfl rfl
  | drainTake => obtain ⟨_, _, _, he⟩ := written; rw [he]; exact queuesFifo_of_eq rfl rfl
  | rxStep => obtain ⟨_, _, _, _, _, _, _, he⟩ := written; rw [he]; exact queuesFifo_of_eq rfl rfl

end

end Sys2Proof.Proofs
end

section
/-! PROOFS. The statements of 20_memory.md. -/

namespace Sys2Proof.Proofs

open Sys2Proof.Machine Sys2Proof.Safety

/-- Settles O58: BYTE_IN, DEC_STEP, TX_FETCH and the aggregator are the only ones that write a queue, and each serves it
first in, first out. -/
theorem queuesAreFirstInFirstOut : Obligations.QueuesAreFirstInFirstOut := by
  intro s t i h
  rw [← effect_eq_of_exec h]
  obtain ⟨bytes, packets⟩ := queuesFifo_effect s i
  exact ⟨bytes, packets⟩

end Sys2Proof.Proofs
end

section
/-! PROOFS. Encoder and decoder (30_encoding.md): the fields of a word, the rows of R95 by their opcode, and the two
round trips. -/

namespace Sys2Proof.Proofs

open Sys2Proof.Machine Sys2Proof.Safety Sys2Proof.Laws

/-! ### Fields of a word -/

section
variable {m n lo : Nat}

/-- A field put back at its place is the word under the field's mask. -/
theorem setWidth_extractLsb'_shiftLeft (w : BitVec m) (lo n : Nat) :
    (w.extractLsb' lo n).setWidth m <<< lo = w &&& ((BitVec.allOnes n).setWidth m <<< lo) := by
  ext j hj
  by_cases below : j < lo
  · simp [below]
  · simp [below, show lo + (j - lo) = j by omega, hj, Bool.and_comm]

/-- The lowest field is the word under the field's mask. -/
theorem setWidth_extractLsb'_zero (w : BitVec m) (n : Nat) :
    (w.extractLsb' 0 n).setWidth m = w &&& (BitVec.allOnes n).setWidth m := by
  simpa using setWidth_extractLsb'_shiftLeft w 0 n

/-- A value put at a place is read back from there. -/
theorem extractLsb'_setWidth_shiftLeft (v : BitVec n) (fits : lo + n ≤ m) :
    (v.setWidth m <<< lo).extractLsb' lo n = v := by
  ext j hj
  simp [show lo + j < m by omega, BitVec.getLsbD_eq_getElem hj]

/-- A value put at a place shows nothing in a field that does not meet it. -/
theorem extractLsb'_setWidth_shiftLeft_of_disjoint (v : BitVec n) {k start : Nat}
    (disjoint : start + k ≤ lo ∨ lo + n ≤ start) :
    (v.setWidth m <<< lo).extractLsb' start k = 0 := by
  ext j hj
  rcases disjoint with below | above
  · simp [show start + j < lo by omega]
  · simp [BitVec.getLsbD_of_ge v (start + j - lo) (by omega)]

theorem extractLsb'_setWidth_zero (v : BitVec n) (fits : n ≤ m) : (v.setWidth m).extractLsb' 0 n = v := by
  simpa using extractLsb'_setWidth_shiftLeft (lo := 0) v (by omega)

theorem extractLsb'_setWidth_of_above (v : BitVec n) {k start : Nat} (above : n ≤ start) :
    (v.setWidth m).extractLsb' start k = 0 := by
  simpa using extractLsb'_setWidth_shiftLeft_of_disjoint (m := m) (lo := 0) (k := k) v (.inr (by omega))

/-- A word is its bits under a mask together with the rest. -/
theorem and_or_and_not (w mask : BitVec m) : (w &&& mask) ||| (w &&& ~~~mask) = w := by
  rw [← BitVec.and_or_distrib_left, BitVec.or_not_self, BitVec.and_allOnes]

theorem ofBool_getLsbD (w : BitVec m) (k : Nat) : BitVec.ofBool (w.getLsbD k) = w.extractLsb' k 1 := by
  ext j hj
  simp [show j = 0 by omega]

end

theorem mode_code_ofCode (c : BitVec 2) : (Mode.ofCode c).code = c := by
  revert c; decide

theorem mode_ofCode_code (m : Mode) : Mode.ofCode m.code = m := by
  cases m <;> rfl

theorem path_code_ofCode (c : BitVec 1) : (Path.ofCode c).code = c := by
  revert c; decide

theorem path_ofCode_code (k : Path) : Path.ofCode k.code = k := by
  cases k <;> rfl

/-! ### The rows of R95 by their opcode

The mask of a row is the opcode and the bits the row does not name; its match is the opcode alone. So a word selects the
row of its own opcode or none, and `decodeWord` reads that row. -/

/-- OP, bits 31:28 of a command word. -/
def opcode (w : Word) : BitVec 4 :=
  w.extractLsb' 28 4

/-- The mask of the row of an opcode. -/
def rowMask (op : BitVec 4) : Word :=
  0xF0000000 ||| reservedBits op

/-- The match of the row of an opcode. -/
def rowMatch (op : BitVec 4) : Word :=
  op.setWidth 32 <<< 28

/-- The operation of the row of an opcode with the fields of a word. `decodeWord_eq_rowInstr` ties it to the model. -/
def rowInstr (op : BitVec 4) (w : Word) : Option Instr :=
  match op with
  | 1 => some (.byteIn (w.extractLsb' 0 8))
  | 2 => some (.setMode (Mode.ofCode (w.extractLsb' 0 2)))
  | 3 => some (.inject (w.extractLsb' 0 7) (w.extractLsb' 8 7) (w.extractLsb' 16 1))
  | 4 => some (.fwdEnable (Path.ofCode (w.extractLsb' 24 1)) (w.extractLsb' 0 24))
  | 5 => some (.fwdDisable (Path.ofCode (w.extractLsb' 24 1)))
  | 6 => some .tick
  | 7 => some (.ackLine (w.getLsbD 0))
  | 8 => some (.rxLines (w.extractLsb' 0 7))
  | _ => none

theorem and_opcodeMask (w : Word) : w &&& 0xF0000000 = rowMatch (opcode w) :=
  (setWidth_extractLsb'_shiftLeft w 28 4).symm

theorem rowMask_and_opcodeMask (op : BitVec 4) : rowMask op &&& 0xF0000000 = 0xF0000000 := by
  revert op; decide

theorem rowMask_and_reservedBits (op : BitVec 4) : rowMask op &&& reservedBits op = reservedBits op := by
  revert op; decide

theorem rowMatch_and_opcodeMask (op : BitVec 4) : rowMatch op &&& 0xF0000000 = rowMatch op := by
  revert op; decide

theorem rowMatch_and_reservedBits (op : BitVec 4) : rowMatch op &&& reservedBits op = 0 := by
  revert op; decide

theorem rowMatch_injective {op op' : BitVec 4} (h : rowMatch op = rowMatch op') : op = op' := by
  revert op op'; decide

/-- A word selects the row of an opcode exactly when it has that opcode and sets no bit the row reserves. -/
theorem and_rowMask_eq_iff (op : BitVec 4) (w : Word) :
    w &&& rowMask op = rowMatch op ↔ opcode w = op ∧ w &&& reservedBits op = 0 := by
  constructor
  · intro selects
    have sameOpcode : rowMatch (opcode w) = rowMatch op := calc
      rowMatch (opcode w) = w &&& rowMask op &&& 0xF0000000 := by
        rw [BitVec.and_assoc, rowMask_and_opcodeMask, and_opcodeMask]
      _ = rowMatch op := by rw [selects, rowMatch_and_opcodeMask]
    have noReserved : w &&& reservedBits op = 0 := calc
      w &&& reservedBits op = w &&& rowMask op &&& reservedBits op := by
        rw [BitVec.and_assoc, rowMask_and_reservedBits]
      _ = 0 := by rw [selects, rowMatch_and_reservedBits]
    exact ⟨rowMatch_injective sameOpcode, noReserved⟩
  · rintro ⟨rfl, noReserved⟩
    rw [rowMask, BitVec.and_or_distrib_left, and_opcodeMask, noReserved]
    exact BitVec.or_zero

theorem selectsRow_iff (op : BitVec 4) (w : Word) :
    selectsRow w (rowMask op) (rowMatch op) = true ↔ opcode w = op ∧ w &&& reservedBits op = 0 := by
  rw [selectsRow, beq_iff_eq, and_rowMask_eq_iff]

/-- A word that sets a bit its row reserves decodes to nothing, and any other as its opcode's row reads it. -/
theorem decodeWord_eq_rowInstr (w : Word) :
    decodeWord w = if w &&& reservedBits (opcode w) = 0 then rowInstr (opcode w) w else none := by
  have byRow : decodeWord w =
      if selectsRow w (rowMask 1) (rowMatch 1) then rowInstr 1 w
      else if selectsRow w (rowMask 2) (rowMatch 2) then rowInstr 2 w
      else if selectsRow w (rowMask 3) (rowMatch 3) then rowInstr 3 w
      else if selectsRow w (rowMask 4) (rowMatch 4) then rowInstr 4 w
      else if selectsRow w (rowMask 5) (rowMatch 5) then rowInstr 5 w
      else if selectsRow w (rowMask 6) (rowMatch 6) then rowInstr 6 w
      else if selectsRow w (rowMask 7) (rowMatch 7) then rowInstr 7 w
      else if selectsRow w (rowMask 8) (rowMatch 8) then rowInstr 8 w
      else none := rfl
  simp only [byRow, selectsRow_iff]
  generalize opcode w = op
  obtain ⟨⟨n, hn⟩⟩ := op
  interval_cases n <;> simp [rowInstr]

/-- A word that selects the row of an opcode decodes as that row reads it. -/
theorem decodeWord_of_selects {op : BitVec 4} {w : Word} (h : w &&& rowMask op = rowMatch op) :
    decodeWord w = rowInstr op w := by
  obtain ⟨rfl, free⟩ := (and_rowMask_eq_iff op w).mp h
  rw [decodeWord_eq_rowInstr, if_pos free]

theorem rowInstr_eq_none_iff (op : BitVec 4) (w : Word) : rowInstr op w = none ↔ op = 0 ∨ 9 ≤ op.toNat := by
  obtain ⟨⟨n, hn⟩⟩ := op
  interval_cases n <;> simp [rowInstr]

/-- The encoding of what a row reads is the row's match together with the bits the row names: each field put back is the
word under that field's mask. -/
theorem encode_of_rowInstr {op : BitVec 4} {w : Word} {i : Instr} (h : rowInstr op w = some i) :
    encode i = .word (rowMatch op ||| (w &&& ~~~rowMask op)) := by
  unfold rowInstr at h
  split at h <;> cases h
  · rw [encode, setWidth_extractLsb'_zero]
    rfl
  · rw [encode, mode_code_ofCode, setWidth_extractLsb'_zero]
    rfl
  · rw [encode, setWidth_extractLsb'_shiftLeft, setWidth_extractLsb'_shiftLeft, setWidth_extractLsb'_zero,
      BitVec.or_assoc, BitVec.or_assoc, ← BitVec.and_or_distrib_left, ← BitVec.and_or_distrib_left]
    rfl
  · rw [encode, path_code_ofCode, setWidth_extractLsb'_shiftLeft, setWidth_extractLsb'_zero,
      BitVec.or_assoc, ← BitVec.and_or_distrib_left]
    rfl
  · rw [encode, path_code_ofCode, setWidth_extractLsb'_shiftLeft]
    rfl
  · exact congrArg Code.word (by simp [rowMatch, rowMask, reservedBits])
  · rw [encode, ofBool_getLsbD, setWidth_extractLsb'_zero]
    rfl
  · rw [encode, setWidth_extractLsb'_zero]
    rfl

/-! ### The round trips -/

/-- A word that decodes is the encoding of what it decodes to (R95, R97). -/
theorem encode_of_decodeWord {w : Word} {i : Instr} (h : decodeWord w = some i) : encode i = .word w := by
  rw [decodeWord_eq_rowInstr] at h
  split at h
  next free =>
    have selects : w &&& rowMask (opcode w) = rowMatch (opcode w) :=
      (and_rowMask_eq_iff _ w).mpr ⟨rfl, free⟩
    rw [encode_of_rowInstr h, ← selects, and_or_and_not]
  next => cases h

/-- A byte is its bit 7 and its bits 6:0 (R81). -/
theorem byte_eq_fields (b : Byte) :
    (b.extractLsb' 7 1).setWidth 8 <<< 7 ||| (b.extractLsb' 0 7).setWidth 8 = b := by
  rw [setWidth_extractLsb'_shiftLeft, setWidth_extractLsb'_zero]
  exact and_or_and_not b 0x80

theorem decodeByte_first_of_set {b : Byte} (h : b.getLsbD 7 = true) :
    decodeByte .first b = .frameByte1 (b.extractLsb' 0 7) :=
  if_pos h

theorem decodeByte_first_of_clear {b : Byte} (h : b.getLsbD 7 = false) :
    decodeByte .first b = .resyncByte1 (b.extractLsb' 0 7) :=
  if_neg (Bool.eq_false_iff.mp h)

/-- A byte at a window position is the encoding of the pattern it matches there (R81). -/
theorem encode_decodeByte (pos : BytePos) (b : Byte) : encode (decodeByte pos b) = .byte pos b := by
  have fields := byte_eq_fields b
  rw [← ofBool_getLsbD] at fields
  cases pos with
  | first =>
    cases h : b.getLsbD 7 with
    | true =>
      rw [h] at fields
      rw [decodeByte_first_of_set h]
      exact congrArg (Code.byte .first) fields
    | false =>
      rw [h] at fields
      rw [decodeByte_first_of_clear h]
      exact congrArg (Code.byte .first) ((BitVec.zero_or).symm.trans fields)
  | second => exact congrArg (Code.byte .second) (byte_eq_fields b)

/-- The operations without an encoding are the internal steps (R98). -/
theorem encode_eq_internal_iff (i : Instr) :
    encode i = .internal ↔ i = .decStep ∨ i = .txFetch ∨ i = .txSend ∨ i = .drainTake ∨ i = .rxStep := by
  cases i <;> simp [encode]

/-- The encoding of an operation decodes to it: a command word selects its own row (`EncodesWithinRow`), whose fields
are the operands, and the bit 7 and the position of a byte name its pattern. -/
theorem decode_encode {i : Instr} (h : encode i ≠ .internal) : decode (encode i) = some i := by
  cases i with
  | byteIn b =>
    refine (decodeWord_of_selects (op := 1) (EncodesWithinRow.byteIn b)).trans ?_
    simp [rowInstr, BitVec.extractLsb'_or, extractLsb'_setWidth_zero]
  | setMode m =>
    refine (decodeWord_of_selects (op := 2) (EncodesWithinRow.setMode m)).trans ?_
    simp [rowInstr, BitVec.extractLsb'_or, extractLsb'_setWidth_zero, mode_ofCode_code]
  | inject x y p =>
    refine (decodeWord_of_selects (op := 3) (EncodesWithinRow.inject x y p)).trans ?_
    simp [rowInstr, BitVec.extractLsb'_or, extractLsb'_setWidth_zero, extractLsb'_setWidth_shiftLeft,
      extractLsb'_setWidth_of_above, extractLsb'_setWidth_shiftLeft_of_disjoint]
  | fwdEnable k t =>
    refine (decodeWord_of_selects (op := 4) (EncodesWithinRow.fwdEnable k t)).trans ?_
    simp [rowInstr, BitVec.extractLsb'_or, extractLsb'_setWidth_zero, extractLsb'_setWidth_shiftLeft,
      extractLsb'_setWidth_of_above, extractLsb'_setWidth_shiftLeft_of_disjoint, path_ofCode_code]
  | fwdDisable k =>
    refine (decodeWord_of_selects (op := 5) (EncodesWithinRow.fwdDisable k)).trans ?_
    simp [rowInstr, BitVec.extractLsb'_or, extractLsb'_setWidth_shiftLeft, path_ofCode_code]
  | tick => exact decodeWord_of_selects (op := 6) EncodesWithinRow.tick
  | ackLine v =>
    refine (decodeWord_of_selects (op := 7) (EncodesWithinRow.ackLine v)).trans ?_
    simp [rowInstr]
  | rxLines v =>
    refine (decodeWord_of_selects (op := 8) (EncodesWithinRow.rxLines v)).trans ?_
    simp [rowInstr, BitVec.extractLsb'_or, extractLsb'_setWidth_zero]
  | frameByte1 y =>
    refine congrArg some ((decodeByte_first_of_set ((EncodesWithinRow.frameByte1 y).mpr ⟨y, rfl⟩)).trans ?_)
    simp [BitVec.extractLsb'_or, extractLsb'_setWidth_zero]
  | resyncByte1 b =>
    refine congrArg some ((decodeByte_first_of_clear (by simp)).trans ?_)
    rw [extractLsb'_setWidth_zero b (by decide)]
  | frameByte2 p x =>
    change some (decodeByte .second _) = _
    simp [decodeByte, BitVec.extractLsb'_or, extractLsb'_setWidth_zero, extractLsb'_setWidth_shiftLeft,
      extractLsb'_setWidth_of_above, extractLsb'_setWidth_shiftLeft_of_disjoint]
  | decStep => exact absurd rfl h
  | txFetch => exact absurd rfl h
  | txSend => exact absurd rfl h
  | drainTake => exact absurd rfl h
  | rxStep => exact absurd rfl h

/-- A word decodes to the operation it is the encoding of. -/
theorem decodeWord_of_encode {w : Word} {i : Instr} (h : encode i = .word w) : decodeWord w = some i := by
  have decodes := decode_encode (i := i) (by simp [h])
  rwa [h] at decodes

/-- The reserved words are those that select no row (R97). -/
theorem reservedWord_iff (w : Word) : ReservedWord w ↔ decodeWord w = none := by
  change opcode w = 0 ∨ 9 ≤ (opcode w).toNat ∨ w &&& reservedBits (opcode w) ≠ 0 ↔ _
  rw [decodeWord_eq_rowInstr, ← or_assoc, ← rowInstr_eq_none_iff (opcode w) w]
  split
  next free => exact or_iff_left (not_not.mpr free)
  next reserved => exact iff_of_true (.inr reserved) rfl

/-! ### The bits of a payload (R84) -/

/-- Bit `k` of a payload: bit 15 is set, the polarity stands at bit 14, and the packing shows through. -/
theorem getLsbD_payload (c : Params) (m : Mode) (e : Event) {k : Nat} (hk : k < 16) :
    (payload c m e).getLsbD k =
      (decide (k = 15) || (!decide (k < 14) && e.p.getLsbD (k - 14)) || (packBits c m e.x e.y).getLsbD k) := by
  have top : (0x8000#16).getLsbD k = decide (k = 15) := by
    revert k; decide
  rw [payload, BitVec.getLsbD_or, BitVec.getLsbD_or, top, BitVec.getLsbD_shiftLeft]
  simp [hk, show k - 14 < 16 by omega]

/-! ### Class C and class I operations (R96) -/

/-- A class C operation is held while DRAIN = 1 and is applied otherwise. -/
theorem exists_effect_eq_commandStep {i : Instr} (hc : i.opClass = .command) :
    ∃ f, effect i = commandStep i f :=
  match i, hc with
  | .setMode m, _ => ⟨applyMode m, rfl⟩
  | .inject x y p, _ => ⟨aggIn { x, y, p }, rfl⟩
  | .fwdEnable k t, _ => ⟨applyFwdEnable k t, rfl⟩
  | .fwdDisable k, _ => ⟨applyFwdDisable k, rfl⟩

theorem effect_of_command_of_drain {i : Instr} (hc : i.opClass = .command) {s : State} (drain : s.drain = true) :
    effect i s = holdCommand i s := by
  obtain ⟨f, hf⟩ := exists_effect_eq_commandStep hc
  rw [hf, commandStep, if_pos drain]

/-- No class I operation writes the held list. -/
theorem effect_held_of_interrupt {i : Instr} (hi : i.opClass = .interrupt) (s : State) :
    (effect i s).held = s.held := by
  have written := effect_writesOnly s i
  match i, hi with
  | .byteIn _, _ => obtain ⟨_, he⟩ := written; rw [he]
  | .tick, _ => obtain ⟨_, _, _, _, he⟩ := written; rw [he]
  | .ackLine _, _ => obtain ⟨_, _, he⟩ := written; rw [he]
  | .rxLines _, _ => rfl

end Sys2Proof.Proofs
end

section
/-! PROOFS. The statements of 30_encoding.md. -/

namespace Sys2Proof.Proofs

open Sys2Proof.Machine Sys2Proof.Safety

/-- Settles O1: a command word selects its own row, a byte its own pattern, and the fields are the operands. -/
theorem encodingDecodesToItself : Obligations.EncodingDecodesToItself :=
  fun i => ⟨encode_eq_internal_iff i, decode_encode⟩

/-- Settles O2: a word that selects a row is that row's match and the fields, and a byte is its bit 7 and its bits
6:0. -/
theorem decodedWordIsItsEncoding : Obligations.DecodedWordIsItsEncoding :=
  ⟨fun _ _ => encode_of_decodeWord, encode_decodeByte⟩

/-- Settles O3: the environment's turn fetches a word that decodes to nothing as a reserved word, which the step only
marks. -/
theorem reservedWordRefusedStateUnchanged : Obligations.ReservedWordRefusedStateUnchanged := by
  refine ⟨reservedWord_iff, ?_⟩
  intro s w ws henv hc reserved
  have decodes := (reservedWord_iff w).mp reserved
  exact step_of_fetch_reserved
    ((fetch_eq_of_turn s henv).trans (fetchWord_cons_none (passTurn s) w ws hc decodes))

/-- Settles O4: the decoder tests bit 7 of a byte1 and nothing of a byte2. -/
theorem inputByteClassifiedByBitSeven : Obligations.InputByteClassifiedByBitSeven :=
  fun _ => ⟨decodeByte_first_of_set, decodeByte_first_of_clear, rfl⟩

/-- Settles O5: each word is the encoding of its operation. -/
theorem sampleWordsDecode : Obligations.SampleWordsDecode :=
  ⟨decodeWord_of_encode rfl, decodeWord_of_encode rfl, decodeWord_of_encode rfl, decodeWord_of_encode rfl,
    decodeWord_of_encode rfl, decodeWord_of_encode rfl, decodeWord_of_encode rfl, decodeWord_of_encode rfl,
    decodeWord_of_encode rfl, decodeWord_of_encode rfl, decodeWord_of_encode rfl, decodeWord_of_encode rfl⟩

/-- Settles O33: each bit of the payload, read off `getLsbD_payload`. -/
theorem payloadBitsOfEvent : Obligations.PayloadBitsOfEvent := by
  intro c m e
  refine ⟨rfl, ?_, ?_, ?_⟩
  · rw [getLsbD_payload c m e (by decide)]
    rfl
  · rw [getLsbD_payload c m e (by decide)]
    rfl
  · intro k hk
    rw [getLsbD_payload c m e (by omega)]
    simp [show k ≠ 15 by omega, hk]

/-- Settles O47: the effect of a class C operation with DRAIN = 1 is to be held, and no class I operation writes the
held list. -/
theorem commandHeldWhileDraining : Obligations.CommandHeldWhileDraining := by
  intro s i
  constructor
  · intro hc drain
    rw [exec_eq_next_effect, effect_of_command_of_drain hc drain]
    rfl
  · intro hi t h
    rw [← effect_eq_of_exec h]
    exact effect_held_of_interrupt hi s

end Sys2Proof.Proofs
end

section
/-! PROOFS. The deserializer (40_deserializer.md): the window rule, DEC_STEP and runs of it, and the internal steps whose
condition does not hold. -/

namespace Sys2Proof.Proofs

open Sys2Proof.Machine Sys2Proof.Safety

section
variable {s : State}

/-! ### The window rule (R122) -/

/-- On an empty window, or on a byte1 whose bit 7 is clear, the byte becomes byte1. -/
theorem window_of_no_valid_byte1 (b : Byte) (h : s.dwl = false ∨ s.dw0.getLsbD 7 = false) :
    window b s = { s with dw0 := b, dwl := true } := by
  rcases window_cases b s with ⟨-, started⟩ | ⟨full, valid, -⟩
  · exact started
  · simp only [full, valid, Bool.true_eq_false, or_self] at h

/-- On a valid byte1 the byte completes the frame. -/
theorem window_of_valid_byte1 (b : Byte) (full : s.dwl = true) (valid : s.dw0.getLsbD 7 = true) :
    window b s = aggIn (frameEvent s b) { s with dwl := false } := by
  rcases window_cases b s with ⟨h, -⟩ | ⟨-, -, emitted⟩
  · simp only [full, valid, Bool.true_eq_false, or_self] at h
  · exact emitted

/-! ### The bytes of a frame -/

theorem getLsbD_seven_frameByte1 (y : Coord) : (0x80#8 ||| y.setWidth 8).getLsbD 7 = true := by
  simp

/-- The coordinate in a byte1 is the one encoded there. -/
theorem extractLsb'_frameByte1 (y : Coord) : (0x80#8 ||| y.setWidth 8).extractLsb' 0 7 = y := by
  have decodes := Option.some.inj (decode_encode (i := .frameByte1 y) Code.noConfusion)
  exact Instr.frameByte1.inj ((decodeByte_first_of_set (getLsbD_seven_frameByte1 y)).symm.trans decodes)

/-- The polarity and the coordinate in a byte2 are those encoded there. -/
theorem extractLsb'_frameByte2 (p : Polarity) (x : Coord) :
    ((p.setWidth 8 <<< 7) ||| x.setWidth 8 : Byte).extractLsb' 7 1 = p ∧
      ((p.setWidth 8 <<< 7) ||| x.setWidth 8 : Byte).extractLsb' 0 7 = x :=
  Instr.frameByte2.inj (Option.some.inj (decode_encode (i := .frameByte2 p x) Code.noConfusion))

/-! ### DEC_STEP (R121) -/

theorem exec_decStep_of_cons {b : Byte} {rest : List Byte} (h : s.bq = b :: rest) :
    exec .decStep s = .next (window b { s with bq := rest }) := by
  simp only [exec_eq_next_effect, effect, h]

/-- The popped byte becomes byte1. -/
theorem exec_decStep_of_no_valid_byte1 {b : Byte} {rest : List Byte} (queued : s.bq = b :: rest)
    (h : s.dwl = false ∨ s.dw0.getLsbD 7 = false) :
    exec .decStep s = .next { s with bq := rest, dw0 := b, dwl := true } :=
  (exec_decStep_of_cons queued).trans (congrArg _ (window_of_no_valid_byte1 b h))

/-- The popped byte completes the frame. -/
theorem exec_decStep_of_valid_byte1 {b : Byte} {rest : List Byte} (queued : s.bq = b :: rest)
    (full : s.dwl = true) (valid : s.dw0.getLsbD 7 = true) :
    exec .decStep s = .next (aggIn (frameEvent s b) { s with bq := rest, dwl := false }) :=
  (exec_decStep_of_cons queued).trans (congrArg _ (window_of_valid_byte1 b full valid))

theorem exec_decStep_of_nil (h : s.bq = []) : exec .decStep s = .next s := by
  simp only [exec_eq_next_effect, effect, h]

/-! ### The other internal steps without their condition (R190, R191, R194, R241) -/

theorem exec_txFetch_of_disabled (h : s.txHas = true ∨ s.pktq = []) : exec .txFetch s = .next s := by
  rw [exec_eq_next_effect]
  simp only [effect]
  split
  next idle queued => simp [idle, queued] at h
  next => rfl

theorem exec_txSend_of_disabled (h : s.txHas = false ∨ s.txGate = false) : exec .txSend s = .next s :=
  have disabled : txSendEnabled s = false := Bool.and_eq_false_iff.mpr h
  if_neg (Bool.eq_false_iff.mp disabled)

theorem exec_drainTake_of_disabled (h : s.drain = false ∨ s.txGate = false) : exec .drainTake s = .next s :=
  have disabled : drainTakeEnabled s = false := Bool.and_eq_false_iff.mpr h
  if_neg (Bool.eq_false_iff.mp disabled)

theorem exec_rxStep_of_disabled (h : s.rxEdges < 2) : exec .rxStep s = .next s :=
  have disabled : rxStepEnabled s = false := decide_eq_false (Nat.not_le.mpr h)
  if_neg (Bool.eq_false_iff.mp disabled)

end

/-! ### Runs of operations -/

theorem runOps_cons_of_next {i : Instr} {s t : State} (is : List Instr) (h : exec i s = .next t) :
    runOps (i :: is) s = runOps is t := by
  simp only [runOps, h]

theorem runOps_append_of_next {is js : List Instr} {s t : State} (h : runOps is s = .next t) :
    runOps (is ++ js) s = runOps js t := by
  induction is generalizing s with
  | nil =>
    obtain rfl : s = t := Host.Outcome.next.inj h
    rfl
  | cons i is ih =>
    have first := exec_eq_next_effect i s
    rw [runOps_cons_of_next is first] at h
    exact (runOps_cons_of_next (is ++ js) first).trans (ih h)

/-- DEC_STEPs over bytes with bit 7 clear change BQ and the window only, and leave no valid byte1: each byte replaces the
one before it, and the frame that follows them starts on such a window (R125). -/
theorem runOps_decStep_of_invalid_bytes {s : State} {cs tail : List Byte} (queued : s.bq = cs ++ tail)
    (invalid : ∀ c ∈ cs, c.getLsbD 7 = false) (start : s.dwl = false ∨ s.dw0.getLsbD 7 = false) :
    ∃ d w, runOps (List.replicate cs.length .decStep) s = .next { s with bq := tail, dw0 := d, dwl := w } ∧
      (w = false ∨ d.getLsbD 7 = false) := by
  induction cs generalizing s with
  | nil =>
    obtain rfl : s.bq = tail := queued
    exact ⟨s.dw0, s.dwl, rfl, start⟩
  | cons c cs ih =>
    have ⟨invalidHead, invalidTail⟩ := List.forall_mem_cons.mp invalid
    rw [List.length_cons, List.replicate_succ, runOps_cons_of_next _ (exec_decStep_of_no_valid_byte1 queued start)]
    exact ih rfl invalidTail (.inr invalidHead)

/-- Two DEC_STEPs over a valid pair, from a window without a valid byte1, hand its event to the aggregator. -/
theorem runOps_decStep_of_valid_pair {s : State} {b1 b2 : Byte} {rest : List Byte} (queued : s.bq = b1 :: b2 :: rest)
    (start : s.dwl = false ∨ s.dw0.getLsbD 7 = false) (valid : b1.getLsbD 7 = true) :
    runOps [.decStep, .decStep] s =
      .next (aggIn { x := b2.extractLsb' 0 7, y := b1.extractLsb' 0 7, p := b2.extractLsb' 7 1 }
        { s with bq := rest, dw0 := b1, dwl := false }) := by
  rw [runOps_cons_of_next _ (exec_decStep_of_no_valid_byte1 queued start)]
  exact runOps_cons_of_next [] (exec_decStep_of_valid_byte1 rfl rfl valid)

/-- The event of the pair that encodes `x`, `y` and `p` has these coordinates and this polarity. -/
theorem runOps_decStep_of_encoded_pair {s : State} {x y : Coord} {p : Polarity} {rest : List Byte}
    (queued : s.bq = (0x80#8 ||| y.setWidth 8) :: ((p.setWidth 8 <<< 7) ||| x.setWidth 8) :: rest)
    (start : s.dwl = false ∨ s.dw0.getLsbD 7 = false) :
    runOps [.decStep, .decStep] s =
      .next (aggIn { x, y, p } { s with bq := rest, dw0 := 0x80#8 ||| y.setWidth 8, dwl := false }) := by
  have pair := runOps_decStep_of_valid_pair queued start (getLsbD_seven_frameByte1 y)
  obtain ⟨polarity, coordX⟩ := extractLsb'_frameByte2 p x
  rwa [coordX, extractLsb'_frameByte1, polarity] at pair

end Sys2Proof.Proofs
end

section
/-! PROOFS. The statements of 40_deserializer.md. -/

namespace Sys2Proof.Proofs

open Sys2Proof.Machine Sys2Proof.Safety

/-- Settles O19: the leading bytes, or a part of them, leave a window without a valid byte1, and the pair that follows
gives its event. -/
theorem leadingBytesResynchronise : Obligations.LeadingBytesResynchronise := by
  intro s cs rest x y p empty invalid queued
  constructor
  · intro k hk
    have leading : s.bq.take k = cs.take k := by
      rw [queued, List.append_assoc, List.take_append_of_le_length hk]
    have parts : s.bq = cs.take k ++ s.bq.drop k := by
      rw [← leading, List.take_append_drop]
    obtain ⟨d, w, run, -⟩ :=
      runOps_decStep_of_invalid_bytes parts (fun c hc => invalid c (List.mem_of_mem_take hc)) (.inl empty)
    rw [List.length_take_of_le hk] at run
    exact ⟨d, w, run⟩
  · rw [List.append_assoc] at queued
    obtain ⟨d, w, run, noByte1⟩ := runOps_decStep_of_invalid_bytes queued invalid (.inl empty)
    rw [List.replicate_add, runOps_append_of_next run]
    exact runOps_decStep_of_encoded_pair rfl noByte1

/-- Settles O10: each internal step tests its condition first. -/
theorem disabledInternalStepDoesNothing : Obligations.DisabledInternalStepDoesNothing :=
  fun _ => ⟨exec_decStep_of_nil, exec_txFetch_of_disabled, exec_txSend_of_disabled, exec_drainTake_of_disabled,
    exec_rxStep_of_disabled⟩

/-- Settles O15: the word is the row's match and the byte, and the effect is one of the two cases of `pushByte`. -/
theorem byteInAppendsOrDropsByte : Obligations.ByteInAppendsOrDropsByte := by
  intro s b
  have runs : exec (.byteIn b) s = .next (pushByte b s) := exec_eq_next_effect (.byteIn b) s
  rw [runs]
  rcases pushByte_cases b s with ⟨room, he⟩ | ⟨full, he⟩ <;> rw [he]
  · exact ⟨rfl, rfl, fun _ => rfl, fun full => absurd room (Nat.not_lt.mpr full)⟩
  · exact ⟨rfl, rfl, fun room => absurd room (Nat.not_lt.mpr full), fun _ => rfl⟩

/-- Settles O16: each of the three patterns hands its byte to the window. -/
theorem windowRuleForEveryByte : Obligations.WindowRuleForEveryByte := by
  intro s b i pattern
  have runs : exec i s = .next (window b s) := by
    rcases pattern with ⟨y, rfl, rfl⟩ | ⟨z, rfl, rfl⟩ | ⟨p, x, rfl, rfl⟩ <;> rfl
  rw [runs]
  exact ⟨fun h => congrArg _ (window_of_no_valid_byte1 b h),
    fun full valid => congrArg _ (window_of_valid_byte1 b full valid)⟩

/-- Settles O17: DEC_STEP hands the byte it pops to the window. -/
theorem decStepPopsByteIntoWindow : Obligations.DecStepPopsByteIntoWindow :=
  fun _ _ _ queued => ⟨exec_decStep_of_no_valid_byte1 queued, exec_decStep_of_valid_byte1 queued⟩

end Sys2Proof.Proofs
end

section
/-! PROOFS. The aggregator (41_aggregator.md): the block of an event, its contributors as slot numbers, the dispatch
case by case, and how many slots an operation can occupy. -/

namespace Sys2Proof.Proofs

open Sys2Proof.Machine Sys2Proof.Safety

/-! ### The block of an event (R144) -/

section
variable (m : Mode)

theorem blockWidth_eq_two_pow : blockWidth m = 2 ^ m.code.toNat :=
  Nat.one_shiftLeft _

theorem two_pow_code_dvd : 2 ^ m.code.toNat ∣ 128 :=
  Nat.pow_dvd_pow 2 (show m.code.toNat ≤ 7 by omega)

theorem blockOf_eq (e : Event) :
    blockOf m e =
      { minX := e.x.toNat - e.x.toNat % 2 ^ m.code.toNat
        maxX := e.x.toNat - e.x.toNat % 2 ^ m.code.toNat + 2 ^ m.code.toNat - 1
        minY := e.y.toNat - e.y.toNat % 2 ^ m.code.toNat
        maxY := e.y.toNat - e.y.toNat % 2 ^ m.code.toNat + 2 ^ m.code.toNat - 1 } := by
  rw [blockOf, blockWidth_eq_two_pow]

end

/-- One axis of a block: where `w` divides the range `n` of the coordinates, the multiples of `w` cut it without
remainder. -/
theorem aligned_interval_bounds {v w n : Nat} (divides : w ∣ n) (inRange : v < n) :
    v - v % w ≤ v ∧ v ≤ v - v % w + w - 1 ∧ v - v % w + w - 1 < n := by
  obtain ⟨k, rfl⟩ := divides
  have pos : 0 < w := Nat.pos_of_mul_pos_right (Nat.zero_lt_of_lt inRange)
  have whole : (v / w + 1) * w ≤ k * w :=
    Nat.mul_le_mul_right w ((Nat.div_lt_iff_lt_mul pos).mpr (Nat.mul_comm w k ▸ inRange))
  have remainder := Nat.mod_lt v pos
  rw [Nat.add_one_mul, Nat.div_mul_self_eq_mod_sub_self, Nat.mul_comm k w] at whole
  omega

/-- The bounds of the block say: the same quotient by the width. -/
theorem contributes_blockOf (m : Mode) (e : Event) (c : Slot) :
    contributes (blockOf m e) c = (c.occ && sameBlock (2 ^ m.code.toNat) e c) := by
  have quotient : ∀ u v : Nat, u / 2 ^ m.code.toNat = v / 2 ^ m.code.toNat ↔
      v - v % 2 ^ m.code.toNat ≤ u ∧ u ≤ v - v % 2 ^ m.code.toNat + 2 ^ m.code.toNat - 1 := fun u v => by
    rw [Nat.div_eq_iff (Nat.two_pow_pos _), Nat.div_mul_self_eq_mod_sub_self]
  simp only [contributes, sameBlock, blockOf_eq, quotient, Bool.decide_and, Bool.and_assoc]

/-! ### Contributors by their numbers (R145) -/

/-- The numbers below `h` whose slot a test accepts, counted, when the test rejects the free slot beyond the array. -/
theorem length_filter_range_getD (sl : List Slot) {f : Slot → Bool} (beyond : f Slot.free = false) (h : Nat) :
    ((List.range h).filter fun j => f (sl.getD j Slot.free)).length = (sl.take h).countP f := by
  induction h with
  | zero => rfl
  | succ h ih =>
    rw [List.range_succ, List.filter_append, List.length_append, ih, List.take_add_one, List.countP_append,
      ← List.countP_eq_length_filter, List.countP_singleton, List.getD_eq_getElem?_getD]
    cases sl[h]? with
    | none => simp [beyond]
    | some c => simp [List.countP_singleton]

section
variable (m : Mode) (e : Event) (h : Nat) (sl : List Slot)

theorem length_contributors (f : Slot → Bool) :
    (contributors (2 ^ m.code.toNat) e h sl f).length =
      (sl.take h).countP fun c => contributes (blockOf m e) c && f c := by
  simp only [contributes_blockOf]
  exact length_filter_range_getD sl (f := fun c => c.occ && sameBlock (2 ^ m.code.toNat) e c && f c) rfl h

theorem tallyOf_blockOf :
    tallyOf (blockOf m e) sl h =
      { count := (contributors (2 ^ m.code.toNat) e h sl fun _ => true).length
        pos := (contributors (2 ^ m.code.toNat) e h sl fun c => c.p == 1).length
        neg := (contributors (2 ^ m.code.toNat) e h sl fun c => c.p == 0).length } := by
  simp only [length_contributors, Bool.and_true]
  rfl

theorem mem_contributors (j : Nat) :
    j ∈ contributors (2 ^ m.code.toNat) e h sl (fun _ => true) ↔
      j < h ∧ contributes (blockOf m e) (sl.getD j Slot.free) = true := by
  simp only [contributors, List.mem_filter, List.mem_range, Bool.and_true, contributes_blockOf]

end

/-- Below the mark exactly the contributing slots are freed (R146). -/
theorem getD_freeContributors_of_lt (b : Block) (sl : List Slot) {h j : Nat} (hj : j < h) :
    (freeContributors b sl h).getD j Slot.free =
      if contributes b (sl.getD j Slot.free) then freeSlot (sl.getD j Slot.free) else sl.getD j Slot.free := by
  rcases Nat.lt_or_ge j sl.length with inside | beyond
  · rw [freeContributors, List.getD_append _ _ _ _ (by simp [hj, inside])]
    simp [hj, inside]
  · rw [List.getD_eq_default _ _ (by simpa using beyond), List.getD_eq_default _ _ beyond]
    rfl

/-- EMIT frees the slots whose numbers contribute, and no others (R146). -/
theorem getD_freeContributors_blockOf (m : Mode) (e : Event) (sl : List Slot) (h j : Nat) :
    (freeContributors (blockOf m e) sl h).getD j Slot.free =
      if j ∈ contributors (2 ^ m.code.toNat) e h sl (fun _ => true) then freeSlot (sl.getD j Slot.free)
      else sl.getD j Slot.free := by
  simp only [mem_contributors]
  rcases Nat.lt_or_ge j h with below | above
  · simp only [getD_freeContributors_of_lt _ _ below, below, true_and]
  · rw [getD_freeContributors_of_le _ _ above, if_neg fun contributing => Nat.not_lt.mpr above contributing.1]

/-- The threshold in terms of the block width (R146). -/
theorem emits_eq_decide (m : Mode) (t : Tally) :
    emits m t = decide (2 ^ m.code.toNat * 2 ^ m.code.toNat / 2 ≤ t.count) := by
  rw [emits, threshold, blockWidth_eq_two_pow]

/-- The coarse event stands at the block's minimum corner (R146). -/
theorem toNat_coarseEvent_blockOf (m : Mode) (e : Event) (t : Tally) :
    (coarseEvent (blockOf m e) t).x.toNat = e.x.toNat - e.x.toNat % 2 ^ m.code.toNat ∧
      (coarseEvent (blockOf m e) t).y.toNat = e.y.toNat - e.y.toNat % 2 ^ m.code.toNat := by
  have corner : ∀ v : Coord,
      (BitVec.ofNat 7 (v.toNat - v.toNat % 2 ^ m.code.toNat)).toNat = v.toNat - v.toNat % 2 ^ m.code.toNat := fun v =>
    Nat.mod_eq_of_lt (Nat.lt_of_le_of_lt (Nat.sub_le _ _) v.isLt)
  rw [blockOf_eq]
  exact ⟨corner e.x, corner e.y⟩

/-! ### The dispatch (R142, R143) -/

section
variable {s : State} (e : Event)

theorem aggIn_of_full (full : s.mode = .full) : aggIn e s = enc e s :=
  if_pos full

theorem aggIn_of_saturated (notFull : s.mode ≠ .full) (saturated : Saturated s) : aggIn e s = s := by
  rw [aggIn, if_neg notFull, agg_of_firstFree_none s e ((firstFree_eq_none s.slots).mpr saturated)]

/-- The event goes into the first free slot, and is left there or completes its block. -/
theorem aggIn_of_firstFree_some {i : Nat} (notFull : s.mode ≠ .full) (hf : firstFree s.slots = some i) :
    aggIn e s =
      if emits s.mode (tally (blockOf s.mode e) (insertSlot i e s)) then
        enc (coarseEvent (blockOf s.mode e) (tally (blockOf s.mode e) (insertSlot i e s)))
          (emitFree (blockOf s.mode e) (insertSlot i e s))
      else insertSlot i e s := by
  rw [aggIn, if_neg notFull, agg_of_firstFree_some s e i hf]
  dsimp only
  cases emits s.mode (tally (blockOf s.mode e) (insertSlot i e s)) <;> rfl

/-- The tally that decides, after the insert, has the contributors of the new slots. -/
theorem emits_tally_insertSlot (i : Nat) :
    emits s.mode (tally (blockOf s.mode e) (insertSlot i e s)) =
      decide (2 ^ s.mode.code.toNat * 2 ^ s.mode.code.toNat / 2 ≤
        (contributors (2 ^ s.mode.code.toNat) e (max s.hwm (i + 1))
          (s.slots.set i { occ := true, x := e.x, y := e.y, p := e.p }) fun _ => true).length) := by
  rw [emits_eq_decide, tally, tallyOf_blockOf]
  rfl

end

/-! ### SET_MODE and INJECT with DRAIN = 0 (R96, R140, R141) -/

section
variable {s : State}

theorem exec_setMode_of_not_drain (m : Mode) (drain : s.drain = false) :
    exec (.setMode m) s = .next (applyMode m s) :=
  congrArg Host.Outcome.next (if_neg (Bool.eq_false_iff.mp drain))

theorem exec_inject_of_not_drain (x y : Coord) (p : Polarity) (drain : s.drain = false) :
    exec (.inject x y p) s = .next (aggIn { x, y, p } s) :=
  congrArg Host.Outcome.next (if_neg (Bool.eq_false_iff.mp drain))

/-- What the dispatch answers, INJECT with DRAIN = 0 answers. -/
theorem exec_inject_of_aggIn_eq {x y : Coord} {p : Polarity} {t : State} (dispatched : aggIn { x, y, p } s = t) :
    aggIn { x, y, p } s = t ∧ (s.drain = false → exec (.inject x y p) s = .next t) :=
  ⟨dispatched, fun drain => dispatched ▸ exec_inject_of_not_drain x y p drain⟩

end

/-! ### The number of occupied slots (R148) -/

section
variable (s : State)

theorem occupied_insertSlot_le {i : Nat} (inRange : i < s.slots.length) (e : Event) :
    occupied (insertSlot i e s) ≤ occupied s + 1 := by
  rw [occupied, insertSlot_slots, List.countP_set inRange]
  exact Nat.add_le_add (Nat.sub_le _ _) (Nat.le_refl 1)

/-- Freeing slots occupies none. -/
theorem occupied_emitFree_le (b : Block) : occupied (emitFree b s) ≤ occupied s := by
  have freed : ∀ c : Slot, (if contributes b c then freeSlot c else c).occ = true → c.occ = true := by
    intro c
    split
    next contributing => exact fun _ => occ_of_contributes contributing
    next => exact id
  simp only [occupied, emitFree_slots, freeContributors, List.countP_append, List.countP_map]
  calc _ ≤ (s.slots.take s.hwm).countP (fun c => c.occ) + (s.slots.drop s.hwm).countP (fun c => c.occ) :=
        Nat.add_le_add_right (List.countP_mono_left fun c _ => freed c) _
    _ = s.slots.countP fun c => c.occ := by rw [← List.countP_append, List.take_append_drop]

theorem occupied_clearSlots : occupied (clearSlots s) = 0 := by
  simp [occupied, freeSlot]

theorem occupied_applyMode_le (m : Mode) : occupied (applyMode m s) ≤ occupied s := by
  rcases applyMode_cases m s with ⟨-, he⟩ | ⟨-, -, he⟩ <;> rw [he]
  · exact Nat.le_trans (Nat.le_of_eq (occupied_clearSlots s)) (Nat.zero_le _)
  · exact Nat.le_refl _

theorem occupied_aggIn_le (e : Event) : occupied (aggIn e s) ≤ occupied s + 1 := by
  have inserted : ∀ i, firstFree s.slots = some i → occupied (insertSlot i e s) ≤ occupied s + 1 := fun i hf =>
    occupied_insertSlot_le s ((firstFree_eq_some s.slots i).mp hf).1 e
  rcases aggIn_cases e s with ⟨-, he⟩ | ⟨-, -, he⟩ | ⟨i, -, hf, -, he⟩ | ⟨i, -, hf, -, he⟩ <;> rw [he]
  · exact Nat.le_succ _
  · exact Nat.le_succ _
  · exact inserted i hf
  · exact Nat.le_trans (occupied_emitFree_le _ _) (inserted i hf)

theorem occupied_window_le (b : Byte) : occupied (window b s) ≤ occupied s + 1 := by
  rcases window_cases b s with ⟨-, he⟩ | ⟨-, -, he⟩ <;> rw [he]
  · exact Nat.le_succ _
  · exact occupied_aggIn_le (resetWindow s) _

theorem occupied_commandStep_le (i : Instr) {f : State → State} (hf : occupied (f s) ≤ occupied s + 1) :
    occupied (commandStep i f s) ≤ occupied s + 1 := by
  rcases commandStep_cases i f s with ⟨-, he⟩ | ⟨-, he⟩ <;> rw [he]
  · exact Nat.le_succ _
  · exact hf

variable {s}

theorem occupied_le_of_slots_eq {t : State} (h : t.slots = s.slots) : occupied t ≤ occupied s + 1 := by
  rw [occupied, h]
  exact Nat.le_succ _

variable (s)

/-- Only what reaches the dispatch can occupy a slot: INJECT, a byte pattern, DEC_STEP. -/
theorem occupied_effect_le (i : Instr) : occupied (effect i s) ≤ occupied s + 1 := by
  have written := effect_writesOnly s i
  cases i with
  | byteIn b => obtain ⟨_, he⟩ := written; exact occupied_le_of_slots_eq (by rw [he])
  | setMode m => exact occupied_commandStep_le s _ (Nat.le_succ_of_le (occupied_applyMode_le s m))
  | inject x y p => exact occupied_commandStep_le s _ (occupied_aggIn_le s _)
  | fwdEnable k t => obtain ⟨_, _, _, _, he⟩ := written; exact occupied_le_of_slots_eq (by rw [he])
  | fwdDisable k => obtain ⟨_, _, _, _, _, _, he⟩ := written; exact occupied_le_of_slots_eq (by rw [he])
  | tick => obtain ⟨_, _, _, _, he⟩ := written; exact occupied_le_of_slots_eq (by rw [he])
  | ackLine v => obtain ⟨_, _, he⟩ := written; exact occupied_le_of_slots_eq (by rw [he])
  | rxLines v => exact occupied_le_of_slots_eq rfl
  | frameByte1 y => exact occupied_window_le s _
  | resyncByte1 b => exact occupied_window_le s _
  | frameByte2 p x => exact occupied_window_le s _
  | decStep =>
    simp only [effect]
    split
    · exact Nat.le_succ _
    · exact occupied_window_le _ _
  | txFetch => obtain ⟨_, _, _, _, he⟩ := written; exact occupied_le_of_slots_eq (by rw [he])
  | txSend => obtain ⟨_, _, _, _, _, _, _, he⟩ := written; exact occupied_le_of_slots_eq (by rw [he])
  | drainTake => obtain ⟨_, _, _, he⟩ := written; exact occupied_le_of_slots_eq (by rw [he])
  | rxStep => obtain ⟨_, _, _, _, _, _, _, he⟩ := written; exact occupied_le_of_slots_eq (by rw [he])

end

end Sys2Proof.Proofs
end

section
/-! PROOFS. The statements of 41_aggregator.md. -/

namespace Sys2Proof.Proofs

open Sys2Proof.Machine Sys2Proof.Safety

/-- Settles O24: the first free slot is `i`, and the tally after the insert is below the threshold. -/
theorem injectBuffersBelowThreshold : Obligations.InjectBuffersBelowThreshold := by
  intro s x y p i notFull inRange free below w slots hwm t few
  have hf : firstFree s.slots = some i := (firstFree_eq_some s.slots i).mpr ⟨inRange, free, below⟩
  apply exec_inject_of_aggIn_eq
  rw [aggIn_of_firstFree_some _ notFull hf, emits_tally_insertSlot, if_neg (by simpa using few)]
  rfl

/-- Settles O25: the first free slot is `i`, the tally after the insert reaches the threshold, and the emit frees the
contributors of the new slots and scans the mark down. -/
theorem injectEmitsAtThreshold : Obligations.InjectEmitsAtThreshold := by
  intro s x y p i notFull inRange free below e w slots hwm C pos neg enough
  have hf : firstFree s.slots = some i := (firstFree_eq_some s.slots i).mpr ⟨inRange, free, below⟩
  have dispatched : aggIn e s = enc (coarseEvent (blockOf s.mode e) (tallyOf (blockOf s.mode e) slots hwm))
      (emitFree (blockOf s.mode e) (insertSlot i e s)) := by
    rw [aggIn_of_firstFree_some e notFull hf, emits_tally_insertSlot, if_pos (decide_eq_true enough)]
    rfl
  obtain ⟨inject, atDrain⟩ := exec_inject_of_aggIn_eq dispatched
  obtain ⟨mark, free_to_old_mark, top⟩ := scanDown_spec (freeContributors (blockOf s.mode e) slots hwm) hwm
  obtain ⟨cornerX, cornerY⟩ := toNat_coarseEvent_blockOf s.mode e (tallyOf (blockOf s.mode e) slots hwm)
  refine ⟨_, _, _, inject, atDrain, freeContributors_length _ slots hwm,
    getD_freeContributors_blockOf s.mode e slots hwm, mark, free_to_old_mark, top, cornerX, cornerY, ?_⟩
  rw [tallyOf_blockOf]
  rfl

/-- Settles O29: every operation is an effect, and an effect inserts at most one event. -/
theorem occupancyGrowsByAtMostOne : Obligations.OccupancyGrowsByAtMostOne := by
  intro s t i h
  rw [← effect_eq_of_exec h]
  exact occupied_effect_le s i

/-- Settles O20: the two cases of SET_MODE's effect. -/
theorem setModeClearsSlots : Obligations.SetModeClearsSlots := by
  intro s m drain
  rw [exec_setMode_of_not_drain m drain]
  constructor
  · intro clears
    refine ⟨s.slots.map freeSlot, congrArg _ (if_pos clears), List.length_map _, fun j => ?_⟩
    exact List.getD_map s.slots Slot.free freeSlot
  · rintro ⟨same, keeps⟩
    exact congrArg _ (if_neg (by simp [same, keeps]))

/-- Settles O21: with DRAIN = 0 the command is applied, and its effect is the dispatch of its event. -/
theorem injectEntersAggregatorInput : Obligations.InjectEntersAggregatorInput :=
  fun _ => exec_inject_of_not_drain

/-- Settles O22: at Full the dispatch is the encoder. -/
theorem injectAtFullQueuesPacket : Obligations.InjectAtFullQueuesPacket := by
  intro s x y p full pkt t
  apply exec_inject_of_aggIn_eq
  rw [aggIn_of_full _ full, enc, payload, full]
  rfl

/-- Settles O23: no slot is free, so the dispatch drops the event. -/
theorem injectDroppedWhenSaturated : Obligations.InjectDroppedWhenSaturated :=
  fun _ _ _ _ notFull saturated => exec_inject_of_aggIn_eq (aggIn_of_saturated _ notFull saturated)

/-- Settles O26: the width divides 128, so each axis is cut into whole intervals of that width. -/
theorem blockAlignedAndInRange : Obligations.BlockAlignedAndInRange := by
  intro m e w b
  obtain ⟨minX, maxX, rangeX⟩ := aligned_interval_bounds (two_pow_code_dvd m) e.x.isLt
  obtain ⟨minY, maxY, rangeY⟩ := aligned_interval_bounds (two_pow_code_dvd m) e.y.isLt
  simp only [b, blockOf_eq]
  exact ⟨rfl, rfl, rfl, rfl, minX, maxX, Nat.le_of_lt_succ rangeX, minY, maxY, Nat.le_of_lt_succ rangeY⟩

end Sys2Proof.Proofs
end

section
/-! PROOFS. The encoder (42_encoder.md): the XOR fold of a word as its population count modulo 2, the parity bit, and the
entries of the symbol table. -/

namespace Sys2Proof.Proofs

open Sys2Proof.Machine

/-! ### The XOR fold and the population count (R171) -/

section
variable {n : Nat} (v w : BitVec n)

theorem toNat_xorLow (k : Nat) : (xorLow v k).toNat = popcountLow v k % 2 := by
  induction k with
  | zero => rfl
  | succ k ih =>
    rw [xorLow, popcountLow, Nat.add_mod, ← ih]
    cases xorLow v k <;> cases v.getLsbD k <;> rfl

theorem xorLow_xor (k : Nat) : xorLow (v ^^^ w) k = (xorLow v k ^^ xorLow w k) := by
  induction k with
  | zero => rfl
  | succ k ih => simp only [xorLow, ih, BitVec.getLsbD_xor, Bool.xor_assoc, Bool.xor_left_comm]

theorem toNat_xorFold : (xorFold v).toNat = popcount v % 2 := by
  rw [xorFold, BitVec.toNat_ofBool, toNat_xorLow, popcount]

theorem xorFold_xor : xorFold (v ^^^ w) = xorFold v ^^^ xorFold w := by
  rw [xorFold, xorLow_xor, ← BitVec.ofBool_xor_ofBool, xorFold, xorFold]

/-- A position set in both words counts twice on the right and not at all on the left. -/
theorem popcount_xor_modEq : popcount (v ^^^ w) ≡ popcount v + popcount w [MOD 2] := by
  rw [Nat.ModEq, ← toNat_xorFold, xorFold_xor, Nat.add_mod, ← toNat_xorFold v, ← toNat_xorFold w]
  generalize xorFold v = a
  generalize xorFold w = b
  revert a b
  decide

variable {v}

/-- One more word folded in adds its 1 bits to a count `m` of those before it. -/
theorem popcount_xor_modEq_add {m : Nat} (h : popcount v ≡ m [MOD 2]) : popcount (v ^^^ w) ≡ m + popcount w [MOD 2] :=
  (popcount_xor_modEq v w).trans (h.add_right _)

end

/-! ### The parity bit (R171) -/

/-- Folding the XOR of the six bytes counts the 1 bits of all six, modulo 2. -/
theorem popcount_parityByte_modEq (c : Params) (pl : Payload) :
    popcount (parityByte c pl) ≡
      popcount c.addrSrc[0] + popcount c.addrSrc[1] + popcount c.addrSrc[2] + popcount c.addrSrc[3] +
        popcount (pl.extractLsb' 0 8) + popcount (pl.extractLsb' 8 8) [MOD 2] := by
  have sources := popcount_xor_modEq_add c.addrSrc[3] (popcount_xor_modEq_add c.addrSrc[2]
    (popcount_xor_modEq c.addrSrc[0] c.addrSrc[1]))
  exact popcount_xor_modEq_add _ (popcount_xor_modEq_add _ sources)

/-- The parity bit is the complement of the fold. -/
theorem toNat_parity (c : Params) (pl : Payload) : (parity c pl).toNat = 1 - popcount (parityByte c pl) % 2 := by
  rw [parity, ← toNat_xorFold]
  generalize xorFold (parityByte c pl) = fold
  revert fold
  decide

/-! ### The symbol table and the packet (R172, R174) -/

/-- The data symbol of a nibble is its entry of the table (R85). -/
theorem sym_getElem?_eq_dataSym (c : Params) (n : BitVec 4) : c.sym.toList[n.toNat]? = some (dataSym c n) := by
  have inTable : n.toNat < 17 := Nat.lt_trans n.isLt (by decide)
  simp [dataSym, inTable]

/-- EOP is the entry after the 16 data symbols (R2). -/
theorem sym_getElem?_eq_eop (c : Params) : c.sym.toList[16]? = some (eop c) := by
  simp [eop]

end Sys2Proof.Proofs
end

section
/-! PROOFS. The statements of 42_encoder.md. -/

namespace Sys2Proof.Proofs

open Sys2Proof.Machine

/-- Settles O32: the bit is the complement of the parity of the six bytes' 1 bits. -/
theorem parityMakesOnesOdd : Obligations.ParityMakesOnesOdd := by
  intro c pl
  rw [toNat_parity, popcount_parityByte_modEq]
  omega

/-- Settles O31: PACKET lists the symbols in this order, and the two table entries are those of `dataSym` and `eop`. -/
theorem packetLayoutInOrder : Obligations.PacketLayoutInOrder :=
  fun c _ _ => ⟨rfl, sym_getElem?_eq_dataSym c, sym_getElem?_eq_eop c, rfl⟩

end Sys2Proof.Proofs
end

section
/-! PROOFS. The transmitter (43_transmitter.md): its operations with their condition met, the writers of the gate, and
transition coding over a run of bus sends. -/

namespace Sys2Proof.Proofs

open Sys2Proof.Machine Sys2Proof.Safety

section
variable {s : State}

/-! ### The internal steps with their condition met (R190, R191, R194) -/

theorem exec_txFetch_of_cons {pkt : Packet} {rest : List Packet} (idle : s.txHas = false)
    (queued : s.pktq = pkt :: rest) :
    exec .txFetch s = .next { s with pktq := rest, txPkt := pkt, txIdx := 0, txHas := true } := by
  simp only [exec_eq_next_effect, effect, idle, queued]

/-- The two cases of moving on in a held packet, as one update. -/
theorem advancePacket_of_txHas (has : s.txHas = true) : advancePacket s = { s with
    txHas := decide (s.txIdx ≠ 10), txIdx := if s.txIdx = 10 then 0 else s.txIdx + 1 } := by
  rcases advancePacket_cases s with ⟨last, h⟩ | ⟨notLast, h⟩ <;> rw [h]
  · simp [last]
  · simp [notLast, has]

theorem exec_txSend_of_enabled (has : s.txHas = true) (released : s.txGate = true) :
    exec .txSend s = .next (if s.fwdS.active then sendToHost s else sendToBus s) :=
  if_pos (Bool.and_eq_true_iff.mpr ⟨has, released⟩)

theorem exec_txSend_to_bus (has : s.txHas = true) (released : s.txGate = true) (bus : s.fwdS.active = false) :
    exec .txSend s = .next { s with
      txGate := false, txOut := s.txOut ^^^ nextSymbol s, txTrace := s.txTrace ++ [s.txOut ^^^ nextSymbol s]
      txHas := decide (s.txIdx ≠ 10), txIdx := if s.txIdx = 10 then 0 else s.txIdx + 1 } := by
  have held : (driveBus (nextSymbol s) (takeGate s)).txHas = true := has
  rw [exec_txSend_of_enabled has released, bus, sendToBus, advancePacket_of_txHas held]
  rfl

theorem exec_txSend_to_host (has : s.txHas = true) (released : s.txGate = true) (host : s.fwdS.active = true) :
    exec .txSend s = .next { s with
      txGate := true
      hostOut := s.hostOut ++
        (if s.txFcnt = 10 then [symbolByte (nextSymbol s), s.prm.term] else [symbolByte (nextSymbol s)])
      txFcnt := if s.txFcnt = 10 then 0 else s.txFcnt + 1
      txHas := decide (s.txIdx ≠ 10), txIdx := if s.txIdx = 10 then 0 else s.txIdx + 1 } := by
  have held : (releaseGate (forwardSymbol (nextSymbol s) (takeGate s))).txHas = true := by
    rw [forwardSymbol_eq]
    exact has
  rw [exec_txSend_of_enabled has released, host, sendToHost, advancePacket_of_txHas held, forwardSymbol_eq]
  rfl

theorem exec_drainTake_of_enabled (drain : s.drain = true) (released : s.txGate = true) :
    exec .drainTake s = .next { s with txGate := false, drain := false, drainT := 0 } :=
  if_pos (Bool.and_eq_true_iff.mpr ⟨drain, released⟩)

/-! ### The acknowledge line (R193) -/

theorem exec_ackLine_of_edge {v : Bool} (edge : v ≠ s.ackIn) :
    exec (.ackLine v) s = .next { s with ackIn := v, txGate := true } :=
  if_pos (bne_iff_ne.mpr edge)

theorem exec_ackLine_of_level {v : Bool} (level : v = s.ackIn) : exec (.ackLine v) s = .next s :=
  if_neg fun edge => bne_iff_ne.mp edge level

/-! ### The writers of the gate (R192, R74) -/

/-- An operation leaves the gate, or is one of the five whose "State written" list names TX_GATE. -/
theorem txGate_eq_or_writer_of_writesOnly {i : Instr} {t : State} (h : WritesOnly i s t) :
    t.txGate = s.txGate ∨ (∃ v, i = .ackLine v) ∨ (∃ k n, i = .fwdEnable k n) ∨ (∃ k, i = .fwdDisable k) ∨
      i = .txSend ∨ i = .drainTake := by
  cases i with
  | byteIn b => obtain ⟨_, rfl⟩ := h; exact .inl rfl
  | setMode m => obtain ⟨_, _, _, _, rfl⟩ := h; exact .inl rfl
  | inject x y p => obtain ⟨_, _, _, _, rfl⟩ := h; exact .inl rfl
  | fwdEnable k n => simp
  | fwdDisable k => simp
  | tick => obtain ⟨_, _, _, _, rfl⟩ := h; exact .inl rfl
  | ackLine v => simp
  | rxLines v => obtain ⟨_, _, rfl⟩ := h; exact .inl rfl
  | frameByte1 y => obtain ⟨_, _, _, _, _, rfl⟩ := h; exact .inl rfl
  | resyncByte1 b => obtain ⟨_, _, _, _, _, rfl⟩ := h; exact .inl rfl
  | frameByte2 p x => obtain ⟨_, _, _, _, _, rfl⟩ := h; exact .inl rfl
  | decStep => obtain ⟨_, _, _, _, _, _, rfl⟩ := h; exact .inl rfl
  | txFetch => obtain ⟨_, _, _, _, rfl⟩ := h; exact .inl rfl
  | txSend => simp
  | drainTake => simp
  | rxStep => obtain ⟨_, _, _, _, _, _, _, rfl⟩ := h; exact .inl rfl

/-- FWD_ENABLE changes the gate only for path S, and only when it is applied (R220, R96). -/
theorem effect_fwdEnable_txGate (k : Path) (n : BitVec 24) :
    (effect (.fwdEnable k n) s).txGate = s.txGate ∨ (s.drain = false ∧ k = .S) := by
  rcases commandStep_cases (.fwdEnable k n) (applyFwdEnable k n) s with ⟨-, held⟩ | ⟨applied, h⟩
  · exact .inl (by rw [effect, held, holdCommand_txGate])
  · cases k with
    | S => exact .inr ⟨applied, rfl⟩
    | L =>
      left
      rw [effect, h]
      rfl

/-- FWD_DISABLE of path S takes a released gate and waits for a taken one (R221). -/
theorem effect_fwdDisable_txGate_of_taken (k : Path) (taken : s.txGate = false) :
    (effect (.fwdDisable k) s).txGate = false := by
  rcases commandStep_cases (.fwdDisable k) (applyFwdDisable k) s with ⟨-, held⟩ | ⟨-, h⟩
  · exact (congrArg State.txGate held).trans taken
  · refine (congrArg State.txGate h).trans ?_
    cases k with
    | S =>
      rcases acquireGate_cases (setFwd .S (fwdOff s.fwdS) s) with ⟨-, took⟩ | ⟨-, waits⟩
      · exact congrArg State.txGate took
      · exact (congrArg State.txGate waits).trans taken
    | L => exact taken

end

/-! ### Transition coding (R195) -/

/-- XOR of consecutive levels gives the symbols back. -/
theorem recover_driveLevels (c : Symbol) (syms : List Symbol) : recover c (driveLevels c syms) = syms := by
  induction syms generalizing c with
  | nil => rfl
  | cons sym rest ih =>
    rw [driveLevels, recover, ih, BitVec.xor_comm c, BitVec.xor_assoc, BitVec.xor_self, BitVec.xor_zero]

/-- A receiver with another previous sample misreads the first symbol only. -/
theorem recover_driveLevels_cons (r c sym : Symbol) (rest : List Symbol) :
    recover r (driveLevels c (sym :: rest)) = (sym ^^^ c ^^^ r) :: rest := by
  rw [driveLevels, recover, recover_driveLevels, BitVec.xor_comm c]

/-- The symbols of the packet that are still to be sent. -/
def symbolsLeft (s : State) : List Symbol :=
  s.txPkt.toList.drop s.txIdx.val

theorem symbolsLeft_eq_cons (s : State) : symbolsLeft s = nextSymbol s :: s.txPkt.toList.drop (s.txIdx.val + 1) := by
  rw [symbolsLeft, List.drop_eq_getElem_cons (by simp)]
  rfl

/-- From `s` to `t` the symbols `syms` went out on the bus, one level each, and nowhere else. -/
structure SentOnBus (syms : List Symbol) (s t : State) : Prop where
  trace : t.txTrace = s.txTrace ++ driveLevels s.txOut syms
  level : t.txOut = (driveLevels s.txOut syms).getLastD s.txOut
  packet : t.txPkt = s.txPkt
  queue : t.pktq = s.pktq
  host : t.hostOut = s.hostOut

theorem sentOnBus_nil (s : State) : SentOnBus [] s s :=
  ⟨(List.append_nil _).symm, rfl, rfl, rfl, rfl⟩

theorem SentOnBus.cons {sym : Symbol} {syms : List Symbol} {s u t : State} (first : SentOnBus [sym] s u)
    (rest : SentOnBus syms u t) : SentOnBus (sym :: syms) s t where
  trace := by
    have level : u.txOut = s.txOut ^^^ sym := first.level
    rw [rest.trace, first.trace, level, List.append_assoc]
    rfl
  level := by
    have level : u.txOut = s.txOut ^^^ sym := first.level
    rw [rest.level, level, driveLevels, List.getLastD_cons]
  packet := rest.packet.trans first.packet
  queue := rest.queue.trans first.queue
  host := rest.host.trans first.host

section
variable {s : State}

/-- The state after an acknowledge edge and the bus send it allows. -/
def afterBusSend (s : State) : State :=
  { s with
    ackIn := !s.ackIn, txGate := false
    txOut := s.txOut ^^^ nextSymbol s, txTrace := s.txTrace ++ [s.txOut ^^^ nextSymbol s]
    txHas := decide (s.txIdx ≠ 10), txIdx := if s.txIdx = 10 then 0 else s.txIdx + 1 }

theorem runOps_ackLine_txSend (has : s.txHas = true) (bus : s.fwdS.active = false) :
    runOps [.ackLine (!s.ackIn), .txSend] s = .next (afterBusSend s) := by
  rw [runOps_cons_of_next _ (exec_ackLine_of_edge (Bool.not_ne_self s.ackIn))]
  exact runOps_cons_of_next [] (exec_txSend_to_bus has rfl bus)

theorem ackedSends_succ (n : Nat) (has : s.txHas = true) (bus : s.fwdS.active = false) :
    ackedSends (n + 1) s = ackedSends n (afterBusSend s) := by
  simp only [ackedSends, runOps_ackLine_txSend has bus]

theorem afterBusSend_txIdx_val (notLast : s.txIdx ≠ 10) : (afterBusSend s).txIdx.val = s.txIdx.val + 1 := by
  rw [afterBusSend, if_neg notLast]
  exact Fin.val_add_one_of_lt (Fin.lt_last_iff_ne_last.mpr notLast)

theorem sentOnBus_afterBusSend (s : State) : SentOnBus [nextSymbol s] s (afterBusSend s) :=
  ⟨rfl, rfl, rfl, rfl, rfl⟩

/-- Acknowledged bus sends within a packet send its next symbols; the packet is done after its last one. -/
theorem ackedSends_within_packet {n : Nat} (has : s.txHas = true) (bus : s.fwdS.active = false)
    (fits : s.txIdx.val + n ≤ 11) :
    ∃ t, ackedSends n s = .next t ∧ SentOnBus ((symbolsLeft s).take n) s t ∧
      t.txHas = decide (s.txIdx.val + n ≠ 11) := by
  induction n generalizing s with
  | zero =>
    have inside : s.txIdx.val + 0 ≠ 11 := Nat.ne_of_lt s.txIdx.isLt
    exact ⟨s, rfl, sentOnBus_nil s, has.trans (decide_eq_true inside).symm⟩
  | succ n ih =>
    rw [ackedSends_succ n has bus, symbolsLeft_eq_cons, List.take_succ_cons]
    have first := sentOnBus_afterBusSend s
    by_cases last : s.txIdx = 10
    · have tenth : s.txIdx.val = 10 := congrArg Fin.val last
      obtain rfl : n = 0 := by omega
      exact ⟨afterBusSend s, rfl, first, by simp [afterBusSend, last]⟩
    · have index := afterBusSend_txIdx_val last
      obtain ⟨t, runs, sent, done⟩ := ih (s := afterBusSend s) (decide_eq_true last) bus (by omega)
      rw [symbolsLeft, index] at sent
      exact ⟨t, runs, first.cons sent, by rw [done, index, Nat.add_right_comm, Nat.add_assoc]⟩

end

end Sys2Proof.Proofs
end

section
/-! PROOFS. The statements of 43_transmitter.md. -/

namespace Sys2Proof.Proofs

open Sys2Proof.Machine Sys2Proof.Safety

/-- Settles O40: of the five writers of the gate, TX_SEND and DRAIN_TAKE need it released and FWD_DISABLE never releases
it. -/
theorem takenGateReleasedOnlyByAckOrEnable : Obligations.TakenGateReleasedOnlyByAckOrEnable := by
  intro s t i taken runs released
  have changed : t.txGate ≠ s.txGate := by simp [taken, released]
  obtain rfl := effect_eq_of_exec runs
  rcases txGate_eq_or_writer_of_writesOnly (effect_writesOnly s i) with
    same | ⟨v, rfl⟩ | ⟨k, n, rfl⟩ | ⟨k, rfl⟩ | rfl | rfl
  · exact absurd same changed
  · by_cases level : v = s.ackIn
    · exact absurd (congrArg State.txGate (effect_eq_of_exec (exec_ackLine_of_level level))) changed
    · exact .inl (congrArg Instr.ackLine (Bool.eq_not.mpr level))
  · rcases effect_fwdEnable_txGate k n with same | ⟨applied, rfl⟩
    · exact absurd same changed
    · exact .inr ⟨applied, n, rfl⟩
  · exact absurd ((effect_fwdDisable_txGate_of_taken k taken).trans taken.symm) changed
  · exact absurd (congrArg State.txGate (effect_eq_of_exec (exec_txSend_of_disabled (.inr taken)))) changed
  · exact absurd (congrArg State.txGate (effect_eq_of_exec (exec_drainTake_of_disabled (.inr taken)))) changed

/-- Settles O41: the run sends the packet's next symbols, and XOR of consecutive levels undoes the running XOR. -/
theorem transitionCodingRoundTrip : Obligations.TransitionCodingRoundTrip := by
  intro s n has bus fits syms
  obtain ⟨t, runs, sent, done⟩ := ackedSends_within_packet has bus fits
  have misread (r s1 : Symbol) (rest : List Symbol) (first : syms = s1 :: rest) :
      recover r (driveLevels s.txOut syms) = (s1 ^^^ s.txOut ^^^ r) :: rest := by
    rw [first, recover_driveLevels_cons]
  exact ⟨t, runs, sent.trace, sent.level, recover_driveLevels _ _, misread, sent.packet, sent.queue, sent.host, done⟩

/-- Settles O36: the condition of TX_FETCH holds. -/
theorem txFetchTakesHeadPacket : Obligations.TxFetchTakesHeadPacket :=
  fun _ _ _ idle queued => exec_txFetch_of_cons idle queued

/-- Settles O37: FWD[S].ACTIVE chooses between the bus and the host. -/
theorem txSendSendsNextSymbol : Obligations.TxSendSendsNextSymbol :=
  fun _ has released => ⟨exec_txSend_to_bus has released, exec_txSend_to_host has released⟩

/-- Settles O38: the word is the row's match and the level, and the line's change is tested first. -/
theorem ackLineEdgeReleasesGate : Obligations.AckLineEdgeReleasesGate :=
  fun _ _ => ⟨rfl, rfl, exec_ackLine_of_edge, exec_ackLine_of_level⟩

/-- Settles O39: the condition of DRAIN_TAKE holds. -/
theorem drainTakeTakesGate : Obligations.DrainTakeTakesGate :=
  fun _ drain released => exec_drainTake_of_enabled drain released

end Sys2Proof.Proofs
end

section
/-! PROOFS. The forwarding controllers and the time base (44_forwarding.md): a class C operation applied, one TICK as one
update, and a controller's timer over a run of TICKs. -/

namespace Sys2Proof.Proofs

open Sys2Proof.Machine Sys2Proof.Safety

section
variable {s : State}

/-! ### FWD_ENABLE and FWD_DISABLE with DRAIN = 0 (R220, R221) -/

theorem commandStep_of_not_drain (i : Instr) (f : State → State) (applied : s.drain = false) :
    commandStep i f s = f s :=
  if_neg (Bool.eq_false_iff.mp applied)

theorem exec_fwdEnable_of_not_drain (k : Path) (t : BitVec 24) (applied : s.drain = false) :
    exec (.fwdEnable k t) s = .next (applyFwdEnable k t s) :=
  congrArg Host.Outcome.next (commandStep_of_not_drain _ _ applied)

theorem exec_fwdDisable_of_not_drain (k : Path) (applied : s.drain = false) :
    exec (.fwdDisable k) s = .next (applyFwdDisable k s) :=
  congrArg Host.Outcome.next (commandStep_of_not_drain _ _ applied)

variable (s)

/-- The gate that path S releases is not part of the controller. -/
theorem getFwd_applyFwdEnable (k : Path) (t : BitVec 24) :
    getFwd k (applyFwdEnable k t s) = fwdOn t (getFwd k s) := by
  cases k <;> rfl

/-- Neither the gate that path S takes nor the wait that it starts is part of a controller. -/
theorem getFwd_acquireGate (k : Path) : getFwd k (acquireGate s) = getFwd k s := by
  rcases acquireGate_cases s with ⟨-, h⟩ | ⟨-, h⟩ <;> rw [h] <;> cases k <;> rfl

theorem getFwd_applyFwdDisable (k : Path) : getFwd k (applyFwdDisable k s) = fwdOff (getFwd k s) := by
  cases k with
  | S => exact getFwd_acquireGate _ .S
  | L => rfl

/-! ### One TICK (R223) -/

/-- The three cases of a TICK of a controller, as one update. -/
theorem tickFwd_eq_ite (f : Fwd) :
    tickFwd f = if f.armed then
      { active := f.active && decide (f.rem - 1 ≠ 0), armed := decide (f.rem - 1 ≠ 0), rem := f.rem - 1 }
    else f := by
  rcases tickFwd_cases f with ⟨off, h⟩ | ⟨armed, last, h⟩ | ⟨armed, more, h⟩ <;> rw [h]
  · simp [off]
  · rw [if_pos armed, last]
    simp
  · rw [if_pos armed, decide_eq_true more, Bool.and_true, armed]

/-- The three cases of a TICK of the drain, as one update. -/
theorem tickDrain_eq :
    tickDrain s = { s with
      drain := s.drain && decide (s.drainT - 1 ≠ 0), drainT := if s.drain then s.drainT - 1 else s.drainT } := by
  rcases tickDrain_cases s with ⟨off, h⟩ | ⟨waits, last, h⟩ | ⟨waits, more, h⟩ <;> rw [h]
  · rw [off, Bool.false_and, if_neg Bool.false_ne_true, ← off]
  · rw [if_pos waits, last]
    simp
  · rw [if_pos waits, decide_eq_true more, Bool.and_true]

theorem getFwd_effect_tick (k : Path) : getFwd k (effect .tick s) = tickFwd (getFwd k s) := by
  rw [effect, tickDrain_eq]
  cases k <;> rfl

/-! ### A run of TICKs -/

theorem runOps_replicate (i : Instr) (n : Nat) : runOps (List.replicate n i) s = .next ((effect i)^[n] s) := by
  induction n generalizing s with
  | zero => rfl
  | succ n ih =>
    rw [List.replicate_succ, runOps_cons_of_next _ (exec_eq_next_effect i s), ih, Function.iterate_succ_apply]

/-- The TICKs of the block are the TICKs of each controller. -/
theorem getFwd_iterate_tick (k : Path) (n : Nat) : getFwd k ((effect .tick)^[n] s) = tickFwd^[n] (getFwd k s) :=
  Function.Semiconj.iterate_right (fun u => getFwd_effect_tick u k) n s

end

/-! ### A controller's timer (R225) -/

/-- A controller with `r` TICKs left: flag and timer are set while something is left. `fwdOn_eq_timerLeft` and
`tickFwd_timerLeft` tie it to the model. -/
def timerLeft (r : BitVec 24) : Fwd where
  active := decide (r ≠ 0)
  armed := decide (r ≠ 0)
  rem := r

theorem fwdOn_eq_timerLeft {t : BitVec 24} (f : Fwd) (timed : t ≠ 0) : fwdOn t f = timerLeft t := by
  rw [fwdOn, if_neg timed, timerLeft, decide_eq_true timed]

/-- A TICK takes one from what is left, and at 0 nothing happens any more. -/
theorem tickFwd_timerLeft (r : BitVec 24) : tickFwd (timerLeft r) = timerLeft (.ofNat 24 (r.toNat - 1)) := by
  rw [tickFwd_eq_ite]
  by_cases ended : r = 0
  · subst ended
    rfl
  · have oneLess : BitVec.ofNat 24 (r.toNat - 1) = r - 1 := by bv_omega
    have armed : (timerLeft r).armed = true := decide_eq_true ended
    rw [oneLess, if_pos armed]
    simp only [timerLeft, decide_eq_true ended, Bool.true_and]

theorem toNat_ofNat_sub (r : BitVec 24) (n : Nat) : (BitVec.ofNat 24 (r.toNat - n)).toNat = r.toNat - n :=
  Nat.mod_eq_of_lt (Nat.lt_of_le_of_lt (Nat.sub_le _ _) r.isLt)

theorem iterate_tickFwd_timerLeft (r : BitVec 24) (n : Nat) :
    tickFwd^[n] (timerLeft r) = timerLeft (.ofNat 24 (r.toNat - n)) := by
  induction n with
  | zero => simp
  | succ n ih => rw [Function.iterate_succ_apply', ih, tickFwd_timerLeft, toNat_ofNat_sub, Nat.sub_sub]

/-- Without a timeout no TICK changes the controller. -/
theorem iterate_tickFwd_of_not_armed {f : Fwd} (off : f.armed = false) (n : Nat) : tickFwd^[n] f = f :=
  Function.iterate_fixed (by rw [tickFwd_eq_ite, off]; rfl) n

/-- Something is left of a timeout of `t` exactly before its last TICK. -/
theorem ofNat_sub_ne_zero_iff (t : BitVec 24) (n : Nat) : BitVec.ofNat 24 (t.toNat - n) ≠ 0 ↔ n < t.toNat := by
  rw [Ne, ← BitVec.toNat_inj, toNat_ofNat_sub]
  exact Nat.sub_ne_zero_iff_lt

/-- A controller enabled with `t`, `n` TICKs later: without a timeout the flag stays, with one it and the timer stay
until the last TICK. -/
theorem iterate_tickFwd_fwdOn (t : BitVec 24) (f : Fwd) (n : Nat) :
    ((tickFwd^[n] (fwdOn t f)).active = true ↔ t = 0 ∨ n < t.toNat) ∧
    (t ≠ 0 → t.toNat ≤ n → (tickFwd^[n] (fwdOn t f)).armed = false) := by
  rcases fwdOn_cases t f with ⟨untimed, on⟩ | ⟨timed, -⟩
  · rw [on, iterate_tickFwd_of_not_armed rfl]
    simp [untimed]
  · rw [fwdOn_eq_timerLeft f timed, iterate_tickFwd_timerLeft]
    have left := ofNat_sub_ne_zero_iff t n
    refine ⟨?_, fun _ past => ?_⟩
    · exact decide_eq_true_iff.trans (left.trans (or_iff_right timed).symm)
    · exact decide_eq_false fun more => Nat.not_lt.mpr past (left.mp more)

end Sys2Proof.Proofs
end

section
/-! PROOFS. The statements of 44_forwarding.md. -/

namespace Sys2Proof.Proofs

open Sys2Proof.Machine Sys2Proof.Safety

/-- Settles O45: the TICKs of the run are TICKs of the controller, and a timer counts its timeout down to 0. -/
theorem timerExpiresOnLastTick : Obligations.TimerExpiresOnLastTick := by
  intro s k t applied
  refine ⟨fun n => ?_, ?_⟩
  · have run := runOps_cons_of_next (List.replicate n .tick) (exec_fwdEnable_of_not_drain k t applied)
    refine ⟨_, run.trans (runOps_replicate _ _ _), ?_⟩
    rw [getFwd_iterate_tick, getFwd_applyFwdEnable]
    exact iterate_tickFwd_fwdOn t (getFwd k s) n
  · refine ⟨_, exec_fwdDisable_of_not_drain k applied, ?_⟩
    rw [getFwd_applyFwdDisable]
    exact ⟨rfl, rfl⟩

/-- Settles O42: with DRAIN = 0 the operation is applied. -/
theorem fwdEnableSetsController : Obligations.FwdEnableSetsController :=
  fun _ t applied => ⟨exec_fwdEnable_of_not_drain .S t applied, exec_fwdEnable_of_not_drain .L t applied⟩

/-- Settles O43: with DRAIN = 0 the operation is applied, and the gate decides what path S does with it. -/
theorem fwdDisableClearsController : Obligations.FwdDisableClearsController := by
  intro s applied off
  have disabled := exec_fwdDisable_of_not_drain .S applied
  refine ⟨fun released => ?_, fun taken => ?_, exec_fwdDisable_of_not_drain .L applied⟩
  · exact disabled.trans (congrArg Host.Outcome.next (if_pos released))
  · exact disabled.trans (congrArg Host.Outcome.next (if_neg (Bool.eq_false_iff.mp taken)))

/-- Settles O44: each controller's TICK and the drain's TICK are one update each. -/
theorem tickCountsTimersDown : Obligations.TickCountsTimersDown := by
  intro s
  refine ⟨rfl, rfl, ?_⟩
  rw [exec_eq_next_effect, effect, tickDrain_eq, tickFwd_eq_ite, tickFwd_eq_ite]

end Sys2Proof.Proofs
end

section
/-! PROOFS. The receiver (45_receiver.md): the edges of a change of the lines, the lookup as the inverse of the symbol
table, a frame's value, RX_STEP inside and at the end of a frame, and a packet fed back from the bus. -/

namespace Sys2Proof.Proofs

open Sys2Proof.Machine Sys2Proof.Safety

/-! ### Edges (R240) -/

theorem popcountLow_eq_length_filter {n : Nat} (v : BitVec n) (k : Nat) :
    popcountLow v k = ((List.range k).filter v.getLsbD).length := by
  induction k with
  | zero => rfl
  | succ k ih =>
    rw [popcountLow, ih, List.range_succ, List.filter_append, List.length_append]
    cases h : v.getLsbD k <;> simp [h]

/-- The XOR of two levels is set at the lines whose levels differ. -/
theorem lineEdges_eq_length_filter (s : State) (v : Symbol) :
    lineEdges s v = ((List.range 7).filter fun k => s.rxLines.getLsbD k != v.getLsbD k).length := by
  have changed : (s.rxLines ^^^ v).getLsbD = fun k => s.rxLines.getLsbD k != v.getLsbD k :=
    funext fun _ => BitVec.getLsbD_xor
  rw [lineEdges, popcount, popcountLow_eq_length_filter, changed]

/-! ### The lookup (R243) -/

section
variable {c : Params} {sym : Symbol}

theorem mem_dataSyms_iff : sym ∈ c.sym.toList.take 16 ↔ ∃ n, dataSym c n = sym := by
  rw [List.mem_take_iff_getElem]
  constructor
  · rintro ⟨i, hi, rfl⟩
    have inTable : i < 16 := by simpa using hi
    exact ⟨BitVec.ofNatLT i inTable, by simp [dataSym]⟩
  · rintro ⟨n, rfl⟩
    exact ⟨n.toNat, by have := n.isLt; simp; omega, by simp [dataSym]⟩

theorem lookup_eq_none_iff : lookup c sym = none ↔ ∀ n, dataSym c n ≠ sym := by
  simp only [lookup, Option.map_eq_none_iff, List.findIdx?_eq_none_iff, beq_eq_false_iff_ne]
  constructor
  · exact fun miss n => miss _ (mem_dataSyms_iff.mpr ⟨n, rfl⟩)
  · rintro miss t mem
    obtain ⟨n, rfl⟩ := mem_dataSyms_iff.mp mem
    exact miss n

theorem dataSym_of_lookup {n : BitVec 4} (found : lookup c sym = some n) : dataSym c n = sym := by
  obtain ⟨i, first, rfl⟩ := Option.map_eq_some_iff.mp found
  obtain ⟨hi, here, -⟩ := List.findIdx?_eq_some_iff_getElem.mp first
  have inTable : i < 16 := by simpa using hi
  simpa [dataSym, Nat.mod_eq_of_lt inTable] using here

end

section
variable (c : Cfg)

theorem cfg_paramsOk : ParamsOk c.params :=
  (wf_iff_paramsOk _).mp c.ok

theorem dataSym_injective : Function.Injective (dataSym c.params) := by
  intro m n same
  have index := (cfg_paramsOk c).symDistinct ⟨m.toNat, by omega⟩ ⟨n.toNat, by omega⟩ same
  exact BitVec.eq_of_toNat_eq (Fin.mk.inj index)

theorem dataSym_ne_eop (n : BitVec 4) : dataSym c.params n ≠ eop c.params := by
  intro same
  have index := (cfg_paramsOk c).symDistinct ⟨n.toNat, by omega⟩ 16 same
  have : n.toNat = 16 := congrArg Fin.val index
  omega

theorem popcount_dataSym (n : BitVec 4) : popcount (dataSym c.params n) = c.params.weight :=
  (cfg_paramsOk c).symWeight ⟨n.toNat, by omega⟩

theorem popcount_eop : popcount (eop c.params) = c.params.weight :=
  (cfg_paramsOk c).symWeight 16

theorem lookup_eq_some_iff {sym : Symbol} {n : BitVec 4} : lookup c.params sym = some n ↔ dataSym c.params n = sym := by
  refine ⟨dataSym_of_lookup, fun listed => ?_⟩
  cases found : lookup c.params sym with
  | none => exact absurd listed (lookup_eq_none_iff.mp found n)
  | some m => rw [dataSym_injective c ((dataSym_of_lookup found).trans listed.symm)]

theorem lookup_eq_none_of_popcount_ne {sym : Symbol} (h : popcount sym ≠ c.params.weight) :
    lookup c.params sym = none :=
  lookup_eq_none_iff.mpr fun n listed => h (listed ▸ popcount_dataSym c n)

theorem lookup_eop : lookup c.params (eop c.params) = none :=
  lookup_eq_none_iff.mpr (dataSym_ne_eop c)

theorem lookup_zero : lookup c.params 0 = none := by
  apply lookup_eq_none_of_popcount_ne
  have noBits : popcount (0 : Symbol) = 0 := by decide
  have weight := (cfg_paramsOk c).weight
  omega

end

/-! ### The value of a frame (R242) -/

theorem frameValue_eq_none_iff {c : Params} {buf : List Symbol} :
    frameValue c buf = none ↔ lookup c (buf.getD 2 0) = none ∨ lookup c (buf.getD 3 0) = none ∨
      lookup c (buf.getD 4 0) = none ∨ lookup c (buf.getD 5 0) = none := by
  unfold frameValue
  split
  next h2 h3 h4 h5 => simp only [h2, h3, h4, h5, reduceCtorEq, or_self]
  next miss =>
    simp only [true_iff, Option.eq_none_iff_forall_ne_some]
    by_contra! found
    obtain ⟨⟨n0, h0⟩, ⟨n1, h1⟩, ⟨n2, h2⟩, ⟨n3, h3⟩⟩ := found
    exact miss n0 n1 n2 n3 h0 h1 h2 h3

theorem setWidth_append_eq_shiftLeft_or {m n : Nat} (k : Nat) (hi : BitVec m) (lo : BitVec n) :
    (hi ++ lo).setWidth k = hi.setWidth k <<< n ||| lo.setWidth k := by
  ext j hj
  by_cases low : j < n
  · simp [BitVec.getLsbD_append, low]
  · simp [BitVec.getLsbD_append, low, BitVec.getLsbD_of_ge lo j (by omega)]

/-- Nibbles shifted to their places are the nibbles appended, the lowest last. -/
theorem or_shifted_nibbles (n0 n1 n2 n3 : BitVec 4) :
    n0.setWidth 16 ||| (n1.setWidth 16 <<< 4) ||| (n2.setWidth 16 <<< 8) ||| (n3.setWidth 16 <<< 12) =
      n3 ++ n2 ++ n1 ++ n0 := by
  have appended : (n3 ++ n2 ++ n1 ++ n0).setWidth 16 = n3 ++ n2 ++ n1 ++ n0 := BitVec.setWidth_eq _
  rw [← appended]
  simp only [setWidth_append_eq_shiftLeft_or, BitVec.shiftLeft_or_distrib, ← BitVec.shiftLeft_add]
  ac_rfl

theorem frameValue_of_lookups {c : Params} {buf : List Symbol} {n0 n1 n2 n3 : BitVec 4}
    (h0 : lookup c (buf.getD 2 0) = some n0) (h1 : lookup c (buf.getD 3 0) = some n1)
    (h2 : lookup c (buf.getD 4 0) = some n2) (h3 : lookup c (buf.getD 5 0) = some n3) :
    frameValue c buf = some (n3 ++ n2 ++ n1 ++ n0) := by
  simp only [frameValue, h0, h1, h2, h3, or_shifted_nibbles]

/-! ### RX_STEP (R241, R242) -/

section
variable {s : State} {why : FrameEnd} {v : Payload}

theorem frameResult_eq_none_iff : frameResult why s = none ↔
    (why = .full ∧ s.prm.rxFullAction = .discard) ∨ s.rxLen < 6 ∨ frameValue s.prm s.rxBuf = none := by
  rcases frameResult_cases why s with ⟨discarded, h⟩ | ⟨kept, long, h⟩ <;> rw [h]
  · exact iff_of_true rfl (discarded.imp_right .inl)
  · rw [or_iff_right kept, or_iff_right (Nat.not_lt.mpr long)]

theorem frameResult_of_kept (kept : why = .eop ∨ s.prm.rxFullAction = .decode) (long : 6 ≤ s.rxLen) :
    frameResult why s = frameValue s.prm s.rxBuf := by
  rcases frameResult_cases why s with ⟨discarded | short, -⟩ | ⟨-, -, h⟩
  · obtain ⟨rfl, discard⟩ := discarded
    rcases kept with eop | decode
    · cases eop
    · cases decode.symm.trans discard
  · exact absurd short (Nat.not_lt.mpr long)
  · exact h

theorem frameEnd_of_none (discarded : frameResult why s = none) : frameEnd why s = { s with rxLen := 0 } := by
  simp only [frameEnd, discarded, emptyRxBuf]

theorem frameEnd_of_some_to_host (value : frameResult why s = some v) (host : s.fwdL.active = true) :
    frameEnd why s = { s with rxLen := 0, hostOut := s.hostOut ++ valueRecord s.prm v } := by
  simp only [frameEnd, value, deliver, host, if_true, emptyRxBuf, emitHost]

theorem frameEnd_of_some_to_local (value : frameResult why s = some v) (notHost : s.fwdL.active = false) :
    frameEnd why s = { s with rxLen := 0, localOut := s.localOut ++ [v] } := by
  simp [frameEnd, value, deliver, notHost, emptyRxBuf, emitLocal]

theorem exec_rxStep_of_enabled (edges : 2 ≤ s.rxEdges) :
    exec .rxStep s = .next (closeFrame (recoveredSymbol s) (takeSample s)) :=
  if_pos (decide_eq_true edges)

theorem exec_rxStep_within_frame (edges : 2 ≤ s.rxEdges) (notEop : recoveredSymbol s ≠ eop s.prm)
    (notFull : s.rxLen + 1 ≠ s.prm.rxCap) : exec .rxStep s = .next (takeSample s) := by
  have goesOn : closeFrame (recoveredSymbol s) (takeSample s) = takeSample s :=
    (if_neg notEop).trans (if_neg notFull)
  rw [exec_rxStep_of_enabled edges, goesOn]

theorem exec_rxStep_of_eop (edges : 2 ≤ s.rxEdges) (isEop : recoveredSymbol s = eop s.prm) :
    exec .rxStep s = .next (frameEnd .eop (takeSample s)) := by
  have ends : closeFrame (recoveredSymbol s) (takeSample s) = frameEnd .eop (takeSample s) := if_pos isEop
  rw [exec_rxStep_of_enabled edges, ends]

theorem exec_rxStep_of_full (edges : 2 ≤ s.rxEdges) (notEop : recoveredSymbol s ≠ eop s.prm)
    (full : s.rxLen + 1 = s.prm.rxCap) : exec .rxStep s = .next (frameEnd .full (takeSample s)) := by
  have ends : closeFrame (recoveredSymbol s) (takeSample s) = frameEnd .full (takeSample s) :=
    (if_neg notEop).trans (if_pos full)
  rw [exec_rxStep_of_enabled edges, ends]

/-- A sample that ends the frame ends it by EOP or, where it is not EOP, by the full buffer. -/
theorem exec_rxStep_of_frame_end (edges : 2 ≤ s.rxEdges)
    (ends : recoveredSymbol s = eop s.prm ∨ s.rxLen + 1 = s.prm.rxCap) :
    ∃ why, exec .rxStep s = .next (frameEnd why (takeSample s)) ∧ (why = .eop ↔ recoveredSymbol s = eop s.prm) := by
  by_cases isEop : recoveredSymbol s = eop s.prm
  · exact ⟨.eop, exec_rxStep_of_eop edges isEop, iff_of_true rfl isEop⟩
  · exact ⟨.full, exec_rxStep_of_full edges isEop (ends.resolve_left isEop), iff_of_false nofun isEop⟩

end

/-! ### A packet fed back from the bus (R244) -/

section
variable (c : Cfg) (pl : Payload)

theorem append_extractLsb'_nibbles :
    pl.extractLsb' 12 4 ++ pl.extractLsb' 8 4 ++ pl.extractLsb' 4 4 ++ pl.extractLsb' 0 4 = pl := by
  have upper : pl.extractLsb' 12 4 ++ pl.extractLsb' 8 4 = pl.extractLsb' 8 8 :=
    BitVec.extractLsb'_append_extractLsb'_eq_extractLsb' rfl
  have middle : pl.extractLsb' 8 8 ++ pl.extractLsb' 4 4 = pl.extractLsb' 4 12 :=
    BitVec.extractLsb'_append_extractLsb'_eq_extractLsb' rfl
  have whole : pl.extractLsb' 4 12 ++ pl.extractLsb' 0 4 = pl.extractLsb' 0 16 :=
    BitVec.extractLsb'_append_extractLsb'_eq_extractLsb' rfl
  rw [upper, middle, whole, BitVec.extractLsb'_eq_self]

/-- A buffer that begins with the packet of a payload has that payload for its value. -/
theorem frameValue_of_packet {buf : List Symbol} (received : buf.take 11 = (packetOf c.params pl).toList) :
    frameValue c.params buf = some pl := by
  have nibble {k : Nat} (hk : k < 11) {n : BitVec 4}
      (sym : (packetOf c.params pl).toList[k]? = some (dataSym c.params n)) :
      lookup c.params (buf.getD k 0) = some n := by
    rw [← received, List.getElem?_take_of_lt hk] at sym
    rw [List.getD_eq_getElem?_getD, sym, Option.getD_some]
    exact (lookup_eq_some_iff c).mpr rfl
  rw [frameValue_of_lookups (nibble (k := 2) (by decide) rfl) (nibble (k := 3) (by decide) rfl)
    (nibble (k := 4) (by decide) rfl) (nibble (k := 5) (by decide) rfl), append_extractLsb'_nibbles]

/-- What holds of header, address and data symbols holds of a packet's symbols before EOP. -/
theorem forall_mem_packet {P : Symbol → Prop} (par : BitVec 1) (header : ∀ k : Fin 2, P c.params.hdr[k])
    (address : ∀ k : Fin 4, P c.params.addrSym[k]) (data : ∀ n, P (dataSym c.params n)) :
    ∀ sym ∈ (packet c.params pl par).toList.take 10, P sym := by
  have parity : P (parityHeader c.params par) := by
    rw [parityHeader]
    split
    · exact header 1
    · exact header 0
  have addresses := And.intro (address 3) <| And.intro (address 2) <| And.intro (address 1) (address 0)
  simpa [packet, parity, data] using addresses

end

section
variable {s : State}

/-- The state after an acknowledge edge, a bus send and its level fed back to the receive lines. -/
def fedBack (s : State) : State :=
  effect (.rxLines (afterBusSend s).txOut) (afterBusSend s)

/-- A packet on its way round, with the premises of R244: its symbols below TX_IDX are received, and the receiver is in
step with the bus. -/
structure LoopingPacket (pl : Payload) (s : State) : Prop where
  weight : s.prm.weight = 2
  has : s.txHas = true
  sending : s.txPkt = packetOf s.prm pl
  bus : s.fwdS.active = false
  sample : s.rxPrev = s.txOut
  lines : s.rxLines = s.txOut
  fill : s.rxLen = s.txIdx.val
  received : receivedFrame s = s.txPkt.toList.take s.txIdx.val
  buffer : s.rxBuf.length = s.prm.rxCap
  fits : 11 ≤ s.prm.rxCap
  inside : ∀ sym ∈ s.txPkt.toList.take 10, sym ≠ eop s.prm ∧ 2 ≤ popcount sym

theorem recoveredSymbol_fedBack (sample : s.rxPrev = s.txOut) : recoveredSymbol (fedBack s) = nextSymbol s := by
  change s.txOut ^^^ nextSymbol s ^^^ s.rxPrev = nextSymbol s
  rw [sample, BitVec.xor_comm s.txOut, BitVec.xor_assoc, BitVec.xor_self, BitVec.xor_zero]

theorem two_le_rxEdges_fedBack (lines : s.rxLines = s.txOut) (edges : 2 ≤ popcount (nextSymbol s)) :
    2 ≤ (fedBack s).rxEdges := by
  have made : lineEdges (afterBusSend s) (afterBusSend s).txOut = popcount (nextSymbol s) := by
    change popcount (s.rxLines ^^^ (s.txOut ^^^ nextSymbol s)) = _
    rw [lines, ← BitVec.xor_assoc, BitVec.xor_self, BitVec.zero_xor]
  change 2 ≤ s.rxEdges + lineEdges (afterBusSend s) (afterBusSend s).txOut
  omega

theorem txIdx_ne_ten (notLast : s.txIdx.val < 10) : s.txIdx ≠ 10 :=
  fun last => Nat.ne_of_lt notLast (congrArg Fin.val last)

theorem txIdx_val_takeSample_fedBack (notLast : s.txIdx.val < 10) :
    (takeSample (fedBack s)).txIdx.val = s.txIdx.val + 1 :=
  afterBusSend_txIdx_val (txIdx_ne_ten notLast)

theorem loopback_succ {t : State} (n : Nat) (has : s.txHas = true) (bus : s.fwdS.active = false)
    (sampled : exec .rxStep (fedBack s) = .next t) : loopback (n + 1) s = loopback n t := by
  have feedback : runOps [.rxLines (afterBusSend s).txOut, .rxStep] (afterBusSend s) = .next t := by
    rw [runOps_cons_of_next _ (exec_eq_next_effect _ _)]
    exact runOps_cons_of_next [] sampled
  simp only [loopback, runOps_ackLine_txSend has bus, feedback]

/-- From `s` to `t` the payload's packet was received whole and its value delivered. -/
def DeliversPacket (pl : Payload) (s t : State) : Prop :=
  t.rxBuf.take 11 = (packetOf s.prm pl).toList ∧ t.rxLen = 0 ∧ t.txHas = false ∧ t.rxPrev = t.txOut ∧
    (s.fwdL.active = false → t.localOut = s.localOut ++ [pl] ∧ t.hostOut = s.hostOut) ∧
    (s.fwdL.active = true →
      t.hostOut = s.hostOut ++ [pl.extractLsb' 8 8, pl.extractLsb' 0 8, s.prm.term] ∧ t.localOut = s.localOut)

variable {pl : Payload}

namespace LoopingPacket

/-- One more symbol of the packet in the buffer, whether it ends the frame or not. -/
theorem receivedFrame_takeSample_fedBack (loop : LoopingPacket pl s) :
    receivedFrame (takeSample (fedBack s)) = s.txPkt.toList.take (s.txIdx.val + 1) := by
  have room : (fedBack s).rxLen < (fedBack s).rxBuf.length := by
    change s.rxLen < s.rxBuf.length
    have fits := loop.fits
    rw [loop.fill, loop.buffer]
    omega
  rw [receivedFrame_takeSample room, recoveredSymbol_fedBack loop.sample, List.take_add_one]
  change receivedFrame s ++ _ = _
  rw [loop.received]
  simp [nextSymbol]

/-- A symbol before the last one goes round within the frame. -/
theorem rxStep_before_last (loop : LoopingPacket pl s) (notLast : s.txIdx.val < 10) :
    exec .rxStep (fedBack s) = .next (takeSample (fedBack s)) ∧ LoopingPacket pl (takeSample (fedBack s)) := by
  have mem : nextSymbol s ∈ s.txPkt.toList.take 10 := by
    rw [List.mem_take_iff_getElem]
    exact ⟨s.txIdx.val, by simp [notLast], rfl⟩
  obtain ⟨notEop, edges⟩ := loop.inside _ mem
  have fits := loop.fits
  have fill := loop.fill
  have index := txIdx_val_takeSample_fedBack notLast
  refine ⟨exec_rxStep_within_frame (two_le_rxEdges_fedBack loop.lines edges) ?_ ?_, ?_⟩
  · rwa [recoveredSymbol_fedBack loop.sample]
  · change s.rxLen + 1 ≠ s.prm.rxCap
    omega
  · exact {
      weight := loop.weight
      has := decide_eq_true (txIdx_ne_ten notLast)
      sending := loop.sending
      bus := loop.bus
      sample := rfl
      lines := rfl
      fill := by rw [index, ← fill]; rfl
      received := by rw [loop.receivedFrame_takeSample_fedBack, index]; rfl
      buffer := by rw [takeSample_rxBuf, List.length_set]; exact loop.buffer
      fits
      inside := loop.inside }

/-- The last symbol, EOP, ends the frame and delivers the payload. -/
theorem rxStep_last (loop : LoopingPacket pl s) (last : s.txIdx = 10) :
    ∃ t, exec .rxStep (fedBack s) = .next t ∧ DeliversPacket pl s t := by
  have symbol : nextSymbol s = eop s.prm := by
    simp [nextSymbol, last, loop.sending, packetOf, packet]
  have edges : 2 ≤ popcount (nextSymbol s) := by rw [symbol, popcount_eop, loop.weight]
  have runs := exec_rxStep_of_eop (two_le_rxEdges_fedBack loop.lines edges)
    ((recoveredSymbol_fedBack loop.sample).trans symbol)
  have fill : (takeSample (fedBack s)).rxLen = 11 := congrArg (· + 1) (loop.fill.trans (congrArg Fin.val last))
  have received : (takeSample (fedBack s)).rxBuf.take 11 = (packetOf s.prm pl).toList := by
    have frame := loop.receivedFrame_takeSample_fedBack
    rw [receivedFrame, fill, last, loop.sending] at frame
    exact frame
  have value : frameResult .eop (takeSample (fedBack s)) = some pl :=
    (frameResult_of_kept (.inl rfl) (by omega)).trans (frameValue_of_packet s.cfg pl received)
  have done : (fedBack s).txHas = false := decide_eq_false (not_not.mpr last)
  refine ⟨_, runs, ?_⟩
  cases host : s.fwdL.active with
  | true =>
    rw [frameEnd_of_some_to_host value host]
    exact ⟨received, rfl, done, rfl, fun off => by simp [host] at off, fun _ => ⟨rfl, rfl⟩⟩
  | false =>
    rw [frameEnd_of_some_to_local value host]
    exact ⟨received, rfl, done, rfl, fun _ => ⟨rfl, rfl⟩, fun on => by simp [host] at on⟩

/-- The rest of the packet goes round and is delivered. -/
theorem loopback_delivers {n : Nat} (loop : LoopingPacket pl s) (rest : s.txIdx.val + n = 10) :
    ∃ t, loopback (n + 1) s = .next t ∧ DeliversPacket pl s t := by
  induction n generalizing s with
  | zero =>
    obtain ⟨t, sampled, delivers⟩ := loop.rxStep_last (Fin.ext rest)
    exact ⟨t, loopback_succ 0 loop.has loop.bus sampled, delivers⟩
  | succ n ih =>
    have notLast : s.txIdx.val < 10 := by omega
    obtain ⟨sampled, looping⟩ := loop.rxStep_before_last notLast
    have index := txIdx_val_takeSample_fedBack notLast
    obtain ⟨t, runs, delivers⟩ := ih looping (by omega)
    exact ⟨t, (loopback_succ (n + 1) loop.has loop.bus sampled).trans runs, delivers⟩

end LoopingPacket

end

end Sys2Proof.Proofs
end

section
/-! PROOFS. The statements of 45_receiver.md. -/

namespace Sys2Proof.Proofs

open Sys2Proof.Machine Sys2Proof.Safety

/-- Settles O50: the frame ends by EOP or by the full buffer, and each way to discard it leaves it no value. -/
theorem rxStepEndsFrame : Obligations.RxStepEndsFrame := by
  intro s edges sym buf s1 n ends
  obtain ⟨why, runs, eopIff⟩ := exec_rxStep_of_frame_end edges ends
  refine ⟨fun discarded => ?_, fun n0 n1 n2 n3 kept long h0 h1 h2 h3 => ?_⟩
  · have noValue : frameResult why (takeSample s) = none := by
      refine frameResult_eq_none_iff.mpr (discarded.imp ?_ (Or.imp id frameValue_eq_none_iff.mpr))
      rintro ⟨notEop, discard⟩
      cases why with
      | eop => exact absurd (eopIff.mp rfl) notEop
      | full => exact ⟨rfl, discard⟩
    rw [runs, frameEnd_of_none noValue]
    rfl
  · have value : frameResult why (takeSample s) = some (n3 ++ n2 ++ n1 ++ n0) :=
      (frameResult_of_kept (s := takeSample s) (kept.imp_left eopIff.mpr) long).trans
        (frameValue_of_lookups h0 h1 h2 h3)
    refine ⟨fun host => ?_, fun notHost => ?_⟩
    · rw [runs, frameEnd_of_some_to_host value host]
      rfl
    · rw [runs, frameEnd_of_some_to_local value notHost]
      rfl

/-- Settles O51: the table is injective, its weight is P_W, and a miss is a value that no nibble has. -/
theorem lookupInvertsSymbolTable : Obligations.LookupInvertsSymbolTable :=
  fun c _ => ⟨fun _ => lookup_eq_some_iff c, lookup_eq_none_iff, lookup_eop c, lookup_zero c,
    lookup_eq_none_of_popcount_ne c⟩

/-- Settles O52: the first ten symbols are received within the frame, and EOP ends it with the payload's value. -/
theorem loopbackDeliversPayload : Obligations.LoopbackDeliversPayload := by
  intro s pl weight fits buffer header address has first packet bus sample lines empty
  have data (n : BitVec 4) : dataSym s.prm n ≠ eop s.prm ∧ 2 ≤ popcount (dataSym s.prm n) :=
    ⟨dataSym_ne_eop s.cfg n, by rw [popcount_dataSym, weight]⟩
  have loop : LoopingPacket pl s := {
    weight, has, bus, sample, lines, buffer, fits
    sending := packet
    fill := by rw [empty, first]; rfl
    received := by rw [receivedFrame, empty, first]; rfl
    inside := packet ▸ forall_mem_packet s.cfg pl _ header address data }
  exact loop.loopback_delivers (by rw [first]; rfl)

/-- Settles O48: the word is the row's match and the levels, and the XOR's population count counts the changed lines. -/
theorem rxLinesCountsChangedLines : Obligations.RxLinesCountsChangedLines := by
  intro s v
  rw [← lineEdges_eq_length_filter]
  exact ⟨rfl, rfl, rfl⟩

/-- Settles O49: a sample that neither is EOP nor fills the buffer is all that RX_STEP does. -/
theorem rxStepRecoversSymbol : Obligations.RxStepRecoversSymbol :=
  fun _ edges notEop notFull => exec_rxStep_within_frame edges notEop notFull

end Sys2Proof.Proofs
end

section
/-! PROOFS. Exceptions and the step (60_exceptions.md): an agent's turn as its internal step, which internal steps leave
a state as it is, and the run after its end. -/

namespace Sys2Proof.Proofs

open Sys2Proof.Machine Sys2Proof.Safety

section
variable {s : State}

/-! ### Turns (R280, R281) -/

theorem passTurn_of_cons {t : Turn} {ts : List Turn} (named : s.turns = t :: ts) :
    passTurn s = { s with turns := ts, turnNo := s.turnNo + 1 } := by
  rw [passTurn, named, List.tail_cons]

theorem passTurn_of_nil (free : s.turns = []) : passTurn s = { s with turnNo := s.turnNo + 1 } := by
  rw [passTurn, free, List.tail_nil, ← free]

theorem txInstr_of_idle (idle : s.txHas = false) : txInstr s = .txFetch := by
  simp [txInstr, idle]

theorem txInstr_of_txHas (has : s.txHas = true) : txInstr s = .txSend := by
  simp [txInstr, has]

theorem opClass_txInstr (s : State) : (txInstr s).opClass = .internal := by
  cases has : s.txHas with
  | false => rw [txInstr_of_idle has]; rfl
  | true => rw [txInstr_of_txHas has]; rfl

/-- A turn that fetches an operation and takes nothing off runs it in the state in which the turn is passed. -/
theorem step_of_turn_run {t : Turn} {i : Instr} (turn : currentTurn s = t)
    (runs : fetchTurn t (passTurn s) = (.run i, passTurn s)) : step s = exec i (passTurn s) :=
  step_of_fetch_run ((fetch_eq_of_turn s turn).trans runs)

/-- The turn of TX runs the step that R280 names for the packet it holds, if any. -/
theorem step_of_tx_turn (turn : currentTurn s = .tx) : step s = exec (txInstr s) (passTurn s) :=
  step_of_turn_run turn rfl

/-! ### An internal step changes the state exactly when its condition holds (R280) -/

/-- An operation that answers `t` and leaves `s` as it is has every field of `t` as in `s`. -/
theorem field_eq_of_exec_eq_self {α : Type} {i : Instr} {t : State} (field : State → α) (runs : exec i s = .next t)
    (same : exec i s = .next s) : field t = field s :=
  congrArg field (Host.Outcome.next.inj (runs.symm.trans same))

/-- DEC_STEP shortens a BQ that is not empty (R121). -/
theorem exec_decStep_eq_self_iff : exec .decStep s = .next s ↔ s.bq = [] := by
  refine ⟨fun same => ?_, exec_decStep_of_nil⟩
  cases queued : s.bq with
  | nil => rfl
  | cons b rest =>
    have popped := field_eq_of_exec_eq_self (·.bq) (exec_decStep_of_cons queued) same
    rw [window_bq, queued] at popped
    exact absurd popped.symm (List.cons_ne_self b rest)

/-- TX_FETCH with its condition met sets TX_HAS (R190). -/
theorem exec_txFetch_eq_self_iff : exec .txFetch s = .next s ↔ s.txHas = true ∨ s.pktq = [] := by
  refine ⟨fun same => ?_, exec_txFetch_of_disabled⟩
  cases queued : s.pktq with
  | nil => exact .inr rfl
  | cons pkt rest =>
    refine .inl (Bool.eq_true_of_not_eq_false fun idle => ?_)
    have fetched := field_eq_of_exec_eq_self (·.txHas) (exec_txFetch_of_cons idle queued) same
    exact Bool.false_ne_true (idle.symm.trans fetched.symm)

/-- TX_SEND with its condition met takes the gate (bus) or lengthens HOST_OUT (host) (R191). -/
theorem exec_txSend_eq_self_iff : exec .txSend s = .next s ↔ s.txHas = false ∨ s.txGate = false := by
  refine ⟨fun same => ?_, exec_txSend_of_disabled⟩
  by_contra enabled
  obtain ⟨has, released⟩ : s.txHas = true ∧ s.txGate = true := by simpa using enabled
  cases path : s.fwdS.active with
  | false =>
    have taken := field_eq_of_exec_eq_self (·.txGate) (exec_txSend_to_bus has released path) same
    exact Bool.false_ne_true (taken.trans released)
  | true =>
    have sent := field_eq_of_exec_eq_self (·.hostOut) (exec_txSend_to_host has released path) same
    have nothing := List.append_right_eq_self.mp sent
    split at nothing <;> cases nothing

/-- DRAIN_TAKE with its condition met takes the gate (R194). -/
theorem exec_drainTake_eq_self_iff : exec .drainTake s = .next s ↔ s.drain = false ∨ s.txGate = false := by
  refine ⟨fun same => ?_, exec_drainTake_of_disabled⟩
  by_contra enabled
  obtain ⟨drain, released⟩ : s.drain = true ∧ s.txGate = true := by simpa using enabled
  have taken := field_eq_of_exec_eq_self (·.txGate) (exec_drainTake_of_enabled drain released) same
  exact Bool.false_ne_true (taken.trans released)

/-- RX_STEP with its condition met consumes the edges of one sample (R241). -/
theorem exec_rxStep_eq_self_iff : exec .rxStep s = .next s ↔ s.rxEdges < 2 := by
  refine ⟨fun same => ?_, exec_rxStep_of_disabled⟩
  by_contra few
  have edges : 2 ≤ s.rxEdges := Nat.le_of_not_lt few
  have consumed := field_eq_of_exec_eq_self (·.rxEdges) (exec_rxStep_of_enabled edges) same
  obtain ⟨_, _, _, closed, -⟩ := closeFrame_frame (recoveredSymbol s) (takeSample s)
  rw [closed] at consumed
  have fewer : s.rxEdges - 2 = s.rxEdges := consumed
  omega

/-! ### Quiescence and the end of a run (R282) -/

/-- The five internal steps (R98). -/
theorem forall_internal_iff {P : Instr → Prop} : (∀ i : Instr, i.opClass = .internal → P i) ↔
    P .decStep ∧ P .txFetch ∧ P .txSend ∧ P .drainTake ∧ P .rxStep := by
  constructor
  · exact fun h => ⟨h _ rfl, h _ rfl, h _ rfl, h _ rfl, h _ rfl⟩
  · rintro ⟨dec, fetch, send, take, rx⟩ i internal
    cases i with
    | decStep => exact dec
    | txFetch => exact fetch
    | txSend => exact send
    | drainTake => exact take
    | rxStep => exact rx
    | _ => cases internal

theorem quiescent_iff_internal_steps_idle :
    quiescent s = true ↔ ∀ i : Instr, i.opClass = .internal → exec i s = .next s := by
  rw [forall_internal_iff, exec_decStep_eq_self_iff, exec_txFetch_eq_self_iff, exec_txSend_eq_self_iff,
    exec_drainTake_eq_self_iff, exec_rxStep_eq_self_iff, quiescent_iff]

theorem runEnded_iff : runEnded s = true ↔ s.cmdIn = [] ∧ s.held = [] ∧ quiescent s = true := by
  rw [runEnded, Bool.and_eq_true, noMoreWords_iff, and_assoc]

/-- Whose turn it is does not enter into the end of a run. -/
@[simp] theorem runEnded_passTurn (s : State) : runEnded (passTurn s) = runEnded s := rfl

@[simp] theorem quiescent_passTurn (s : State) : quiescent (passTurn s) = quiescent s := rfl

/-- After its end a run finds no word, no held operation and no internal step that acts, whosever turn it is. -/
theorem step_of_runEnded (ended : runEnded s = true) : step s = .next (passTurn s) := by
  obtain ⟨port, held, quiet⟩ := runEnded_iff.mp ended
  have idle := quiescent_iff_internal_steps_idle.mp ((quiescent_passTurn s).trans quiet)
  cases turn : currentTurn s with
  | env =>
    obtain ⟨-, noWord⟩ := stepRunsDecodedWord s turn
    exact noWord port
  | held n =>
    obtain ⟨-, holdsNothing, -⟩ := heldOperationWaitsForDrain s n turn
    exact holdsNothing (by rw [held, List.getElem?_nil])
  | dec => exact (step_of_turn_run turn rfl).trans (idle .decStep rfl)
  | tx => exact (step_of_tx_turn turn).trans (idle (txInstr s) (opClass_txInstr s))
  | cmd => exact (step_of_turn_run turn rfl).trans (idle .drainTake rfl)
  | rx => exact (step_of_turn_run turn rfl).trans (idle .rxStep rfl)

theorem run_of_runEnded (ended : runEnded s = true) (k : Nat) :
    Sys2Proof.core.run k s = .next { s with turns := s.turns.drop k, turnNo := s.turnNo + k } := by
  induction k generalizing s with
  | zero => rfl
  | succ k ih =>
    rw [run_succ_of_next k s (passTurn s) (step_of_runEnded ended), ih ((runEnded_passTurn s).trans ended),
      passTurn_turns, passTurn_turnNo, List.drop_tail, Nat.add_right_comm, Nat.add_assoc]
    rfl

end

end Sys2Proof.Proofs
end

section
/-! PROOFS. The statements of 60_exceptions.md. -/

namespace Sys2Proof.Proofs

open Sys2Proof.Machine Sys2Proof.Safety

/-- Settles O55: each internal step with its condition met changes a field, and from an ended run every turn is only
passed, which keeps the run ended. -/
theorem quiescentExactlyWhenNoInternalStepActs : Obligations.QuiescentExactlyWhenNoInternalStepActs :=
  fun _ => ⟨quiescent_iff_internal_steps_idle, runEnded_iff, run_of_runEnded⟩

/-- Settles O11: a step runs an operation, which answers its effect, or marks a reserved word, or passes the turn. -/
theorem everyStepAnswersNextState : Obligations.EveryStepAnswersNextState :=
  exists_step_eq_next

/-- Settles O6: the present turn is the head of the named turns, and the free choice only where there is none. -/
theorem turnIsNamedOrFree : Obligations.TurnIsNamedOrFree :=
  fun s => ⟨fun t ts named => ⟨currentTurn_cons s t ts named, passTurn_of_cons named⟩,
    fun free => ⟨currentTurn_nil s free, passTurn_of_nil free⟩⟩

/-- Settles O8: each agent's turn fetches its internal step and takes nothing off; TX's depends on TX_HAS. -/
theorem stepRunsInternalStepOfAgent : Obligations.StepRunsInternalStepOfAgent := by
  intro s
  refine ⟨?dec, ?fetch, ?send, ?cmd, ?rx⟩
  case dec => exact fun turn => step_of_turn_run turn rfl
  case fetch => exact fun turn idle => txInstr_of_idle idle ▸ step_of_tx_turn turn
  case send => exact fun turn has => txInstr_of_txHas has ▸ step_of_tx_turn turn
  case cmd => exact fun turn => step_of_turn_run turn rfl
  case rx => exact fun turn => step_of_turn_run turn rfl

end Sys2Proof.Proofs
end

section
/-! PROOFS. Reset and hazards (70_reset_and_hazards.md): the slots of a saturated array, and the disable path's wait as
a count of TICKs; and the byte patterns of R81 as the window rule on the byte they encode. -/

namespace Sys2Proof.Proofs

open Sys2Proof.Machine Sys2Proof.Safety

section
variable {s : State}

/-! ### A saturated array (R300) -/

/-- A byte either stays in the window or gives an event that finds no free slot. -/
theorem window_slots_of_saturated (b : Byte) (notFull : s.mode ≠ .full) (saturated : Saturated s) :
    (window b s).slots = s.slots := by
  rcases window_cases b s with ⟨-, started⟩ | ⟨-, -, emitted⟩
  · rw [started, startWindow_slots]
  · rw [emitted, aggIn_of_saturated (s := resetWindow s) _ notFull saturated, resetWindow_slots]

/-- INJECT is held, or its event finds no free slot. -/
theorem effect_inject_slots_of_saturated (x y : Coord) (p : Polarity) (notFull : s.mode ≠ .full)
    (saturated : Saturated s) : (effect (.inject x y p) s).slots = s.slots := by
  rcases commandStep_cases (.inject x y p) (aggIn { x, y, p }) s with ⟨-, held⟩ | ⟨-, applied⟩
  · rw [effect, held, holdCommand_slots]
  · rw [effect, applied, aggIn_of_saturated _ notFull saturated]

/-- What reaches the dispatch is dropped there, and no operation but SET_MODE writes the slots otherwise. -/
theorem effect_slots_of_saturated {i : Instr} (notFull : s.mode ≠ .full) (saturated : Saturated s)
    (other : ∀ m, i ≠ .setMode m) : (effect i s).slots = s.slots := by
  have written := effect_writesOnly s i
  cases i with
  | byteIn b => obtain ⟨_, he⟩ := written; rw [he]
  | setMode m => exact absurd rfl (other m)
  | inject x y p => exact effect_inject_slots_of_saturated x y p notFull saturated
  | fwdEnable k t => obtain ⟨_, _, _, _, he⟩ := written; rw [he]
  | fwdDisable k => obtain ⟨_, _, _, _, _, _, he⟩ := written; rw [he]
  | tick => obtain ⟨_, _, _, _, he⟩ := written; rw [he]
  | ackLine v => obtain ⟨_, _, he⟩ := written; rw [he]
  | rxLines v => rfl
  | frameByte1 y => exact window_slots_of_saturated _ notFull saturated
  | resyncByte1 b => exact window_slots_of_saturated _ notFull saturated
  | frameByte2 p x => exact window_slots_of_saturated _ notFull saturated
  | decStep =>
    simp only [effect]
    split
    · rfl
    · exact window_slots_of_saturated _ notFull saturated
  | txFetch => obtain ⟨_, _, _, _, he⟩ := written; rw [he]
  | txSend => obtain ⟨_, _, _, _, _, _, _, he⟩ := written; rw [he]
  | drainTake => obtain ⟨_, _, _, he⟩ := written; rw [he]
  | rxStep => obtain ⟨_, _, _, _, _, _, _, he⟩ := written; rw [he]

/-! ### The disable path's wait (R221, R223, R316) -/

/-- `r` TICKs of the wait for the taken gate are left, and the wait is over at 0. -/
structure DrainWait (r : Nat) (s : State) : Prop where
  drain : s.drain = decide (0 < r)
  drainT : s.drainT = r
  taken : s.txGate = false

/-- At a taken gate the acquire begins the wait. -/
theorem drainWait_acquireGate (taken : s.txGate = false) : DrainWait Config.drainTimeout (acquireGate s) := by
  rcases acquireGate_cases s with ⟨released, -⟩ | ⟨-, waits⟩
  · exact absurd released (Bool.eq_false_iff.mp taken)
  · rw [waits]
    exact ⟨rfl, rfl, taken⟩

theorem drainWait_applyFwdDisable (taken : s.txGate = false) :
    DrainWait Config.drainTimeout (applyFwdDisable .S s) :=
  drainWait_acquireGate (s := setFwd .S (fwdOff s.fwdS) s) taken

/-- A TICK takes one from what is left, and at 0 nothing happens any more. -/
theorem drainWait_tickDrain {r : Nat} (wait : DrainWait r s) : DrainWait (r - 1) (tickDrain s) := by
  obtain ⟨drain, drainT, taken⟩ := wait
  rw [tickDrain_eq, drain, drainT]
  cases r with
  | zero => exact ⟨rfl, rfl, taken⟩
  | succ r => exact ⟨by simp [Nat.pos_iff_ne_zero], rfl, taken⟩

/-- The controllers, which the same TICK counts down, are no part of the wait. -/
theorem drainWait_tick {r : Nat} (wait : DrainWait r s) : DrainWait (r - 1) (effect .tick s) :=
  drainWait_tickDrain ⟨wait.drain, wait.drainT, wait.taken⟩

theorem drainWait_iterate_tick {r : Nat} (wait : DrainWait r s) (n : Nat) :
    DrainWait (r - n) ((effect .tick)^[n] s) := by
  induction n with
  | zero => exact wait
  | succ n ih =>
    rw [Function.iterate_succ_apply', ← Nat.sub_sub]
    exact drainWait_tick ih

end

/-! ### The byte patterns (R81, R122) -/

/-- An operation that a byte encodes hands the byte to the window rule. -/
theorem exec_of_encode_byte {i : Instr} {pos : BytePos} {b : Byte} (h : encode i = .byte pos b) (s : State) :
    exec i s = .next (window b s) := by
  cases i with
  | frameByte1 y => cases h; rfl
  | resyncByte1 c => cases h; rfl
  | frameByte2 p x => cases h; rfl
  | _ => cases h

/-- A pattern hands on the byte it was read from, at either position. -/
theorem exec_decodeByte (pos : BytePos) (b : Byte) (s : State) : exec (decodeByte pos b) s = .next (window b s) :=
  exec_of_encode_byte (encode_decodeByte pos b) s

end Sys2Proof.Proofs
end

section
/-! PROOFS. The statements of 70_reset_and_hazards.md, and the statement of 40_deserializer.md on the byte patterns. -/

namespace Sys2Proof.Proofs

open Sys2Proof.Machine Sys2Proof.Safety

/-- Settles O28: no operation but SET_MODE changes the slots, so the array stays saturated. -/
theorem saturationSticksUntilSetMode : Obligations.SaturationSticksUntilSetMode := by
  intro s t i notFull saturated other runs
  have kept : t.slots = s.slots := effect_eq_of_exec runs ▸ effect_slots_of_saturated notFull saturated other
  exact ⟨kept, by rwa [Saturated, kept]⟩

/-- Settles O46: FWD_DISABLE begins a wait of 100 TICKs, and each TICK takes one from it. -/
theorem drainWaitEndsOnHundredthTick : Obligations.DrainWaitEndsOnHundredthTick := by
  intro s n applied taken
  have run := runOps_cons_of_next (List.replicate n .tick) (exec_fwdDisable_of_not_drain .S applied)
  obtain ⟨drain, drainT, stillTaken⟩ := drainWait_iterate_tick (drainWait_applyFwdDisable taken) n
  refine ⟨_, run.trans (runOps_replicate _ _ _), drain.trans ?_, drainT, stillTaken⟩
  exact decide_eq_decide.mpr Nat.sub_pos_iff_lt

/-- Settles O18: DEC_STEP and the pattern that the popped byte matches both hand that byte to the window rule. -/
theorem decStepRunsBytePattern : Obligations.DecStepRunsBytePattern :=
  fun _ _ _ queued => (exec_decStep_of_cons queued).trans (exec_decodeByte _ _ _).symm

end Sys2Proof.Proofs
end
